-- ==== Sys2Proof/Word.lean ====
section
/-!
DEFINITION. The widths the spec counts in (R12): bytes, 32-bit words, the 64-bit redirection entries and the
256-bit vector registers. All device arithmetic is unsigned (R12), so plain `BitVec` operations are used throughout.
-/

namespace Sys2Proof

/-- `u8` of R12: vectors, unit IDs, bytes of the floppy controller. -/
abbrev Byte := BitVec 8

/-- `u32` of R12: bus data, physical addresses, every directly accessible 82489DX register (R30). -/
abbrev Word := BitVec 32

/-- `u64` of R12: a redirection table entry (R64). -/
abbrev Word64 := BitVec 64

/-- The 256-bit ISR, TMR and IRR (R39, R40, R41): bit `v` belongs to vector `v`. -/
abbrev VectorSet := BitVec 256

/-- The boundary scan path of 137 cells (R74): bit `c - 1` belongs to cell `c`, so cell 1 is nearest `tdi`. -/
abbrev ScanPath := BitVec 137

end Sys2Proof
end

