-- ==== Sys2Proof/Syntax.lean ====
section
/-!
DEFINITION. The operations of spec/opcode_table.json, one constructor per row, and the form in which one of them is
presented to a port (`Cycle`). What the table encodes (a register address, an index, a command word, a JTAG opcode, the
two bytes of a floppy command) is the `word` of a cycle; the operands it does not encode (which processor, read or
write, the data, the tdi stream) stand beside it (DESIGN CHOICE, log 3).
-/

namespace Sys2Proof

/-- What a bus cycle asks of a register (R80): a read, or a write of `v`. `posted` is the processor's choice to hold the
write in its write buffer (R85); the choice is open, so every cycle carries it. -/
inductive Access where
  | read
  | write (v : Word) (posted : Bool)
  deriving DecidableEq, Repr

/-- Width of a bus cycle: the processor's data types (R21). -/
inductive Width where
  | byte
  | half
  | dword
  deriving DecidableEq, Repr

/-- Where an operation is presented. The table's formats differ by port, and their bit patterns overlap, so the port is
part of decoding: `bus` a processor's cycle in memory space and `ioSpace` one in I/O space (R81, R112), `window` an indirect
index of an I/O unit (R113), `command` the low word of the Interrupt Command Register (R48), `tap` the JTAG instruction
register (R120), `fifo` the data FIFO of the 82077 (R125), `result` a read of its eighth DUMPREG byte (R126). -/
inductive Port where
  | bus
  | ioSpace
  | window
  | command
  | tap
  | fifo
  | result
  deriving DecidableEq, Repr

/-- One operation presented at a port. `agent` is the processor (or, at the `tap` port, the package) that issues it and
`unit` the I/O unit of a `window` cycle, counted from 0. -/
structure Cycle where
  port   : Port
  agent  : Nat
  unit   : Nat
  width  : Width
  access : Access
  word   : Word
  serial : List Bool
  deriving DecidableEq, Repr

/-- The operand fields of an Interrupt Command Register low word beside the delivery mode (R42, R48). `readStatus` and
`deliveryState` are read-only fields: they are part of the word and the hardware ignores what is written there (R49). -/
structure CommandFields where
  shorthand     : BitVec 2
  readStatus    : BitVec 2
  triggerLevel  : Bool
  level         : Bool
  deliveryState : Bool
  logical       : Bool
  vector        : Byte
  deriving DecidableEq, Repr

/-- One constructor per row of spec/opcode_table.json. `p` is the processor that issues the operation, `n` an I/O unit
counted from 0, `k` a word or entry number as the row encodes it (at a JTAG row the package), `a` the access. -/
inductive Instr where
  /-- LU.ID: R31. -/
  | luId (p : Nat) (a : Access)
  /-- LU.VERSION: R32. -/
  | luVersion (p : Nat) (a : Access)
  /-- LU.TPR: R145. -/
  | luTpr (p : Nat) (a : Access)
  /-- LU.EOI: R150. -/
  | luEoi (p : Nat) (a : Access)
  /-- LU.REMOTE: R35. -/
  | luRemote (p : Nat) (a : Access)
  /-- LU.LDR: R36. -/
  | luLdr (p : Nat) (a : Access)
  /-- LU.DFR: R37. -/
  | luDfr (p : Nat) (a : Access)
  /-- LU.SVR: R140. -/
  | luSvr (p : Nat) (a : Access)
  /-- LU.ISR[k]: R39. -/
  | luIsr (p : Nat) (k : BitVec 3) (a : Access)
  /-- LU.TMR[k]: R40. -/
  | luTmr (p : Nat) (k : BitVec 3) (a : Access)
  /-- LU.IRR[k]: R41. -/
  | luIrr (p : Nat) (k : BitVec 3) (a : Access)
  /-- LU.ICR_LOW: R170. -/
  | luIcrLow (p : Nat) (a : Access)
  /-- LU.ICR_HIGH: R42. -/
  | luIcrHigh (p : Nat) (a : Access)
  /-- LU.LVT_TIMER: R43. -/
  | luLvtTimer (p : Nat) (a : Access)
  /-- LU.LVT_LINT0: R43. -/
  | luLvtLint0 (p : Nat) (a : Access)
  /-- LU.LVT_LINT1: R43. -/
  | luLvtLint1 (p : Nat) (a : Access)
  /-- LU.TIMER_INIT: R44. -/
  | luTimerInit (p : Nat) (a : Access)
  /-- LU.TIMER_CUR: R45. -/
  | luTimerCur (p : Nat) (a : Access)
  /-- LU.TIMER_DIV: R46. -/
  | luTimerDiv (p : Nat) (a : Access)
  /-- LU.reserved_000000: R47. -/
  | luReserved000000 (p : Nat) (a : Access)
  /-- LU.reserved_000001: R47. -/
  | luReserved000001 (p : Nat) (a : Access)
  /-- LU.reserved_000100: R47. -/
  | luReserved000100 (p : Nat) (a : Access)
  /-- LU.reserved_000101: R47. -/
  | luReserved000101 (p : Nat) (a : Access)
  /-- LU.reserved_000110: R47. -/
  | luReserved000110 (p : Nat) (a : Access)
  /-- LU.reserved_000111: R47. -/
  | luReserved000111 (p : Nat) (a : Access)
  /-- LU.reserved_001001: R47. -/
  | luReserved001001 (p : Nat) (a : Access)
  /-- LU.reserved_001010: R47. -/
  | luReserved001010 (p : Nat) (a : Access)
  /-- LU.reserved_101000: R47. -/
  | luReserved101000 (p : Nat) (a : Access)
  /-- LU.reserved_101001: R47. -/
  | luReserved101001 (p : Nat) (a : Access)
  /-- LU.reserved_101010: R47. -/
  | luReserved101010 (p : Nat) (a : Access)
  /-- LU.reserved_101011: R47. -/
  | luReserved101011 (p : Nat) (a : Access)
  /-- LU.reserved_101100: R47. -/
  | luReserved101100 (p : Nat) (a : Access)
  /-- LU.reserved_101101: R47. -/
  | luReserved101101 (p : Nat) (a : Access)
  /-- LU.reserved_101110: R47. -/
  | luReserved101110 (p : Nat) (a : Access)
  /-- LU.reserved_101111: R47. -/
  | luReserved101111 (p : Nat) (a : Access)
  /-- LU.reserved_110011: R47. -/
  | luReserved110011 (p : Nat) (a : Access)
  /-- LU.reserved_110100: R47. -/
  | luReserved110100 (p : Nat) (a : Access)
  /-- LU.reserved_110111: R47. -/
  | luReserved110111 (p : Nat) (a : Access)
  /-- LU.reserved_111010: R47. -/
  | luReserved111010 (p : Nat) (a : Access)
  /-- LU.reserved_111011: R47. -/
  | luReserved111011 (p : Nat) (a : Access)
  /-- LU.reserved_111100: R47. -/
  | luReserved111100 (p : Nat) (a : Access)
  /-- LU.reserved_111101: R47. -/
  | luReserved111101 (p : Nat) (a : Access)
  /-- LU.reserved_111111: R47. -/
  | luReserved111111 (p : Nat) (a : Access)
  /-- IOU.SELECT: R200. -/
  | ioSelect (p : Nat) (n : Nat) (a : Access)
  /-- IOU.WINDOW: R201. -/
  | ioWindow (p : Nat) (n : Nat) (a : Access)
  /-- IOU.reserved_direct: R60. -/
  | ioReservedDirect (p : Nat) (n : Nat) (sel : BitVec 6) (a : Access)
  /-- IOU.IDX_ID: R202. -/
  | ioIdxId (p : Nat) (n : Nat) (a : Access)
  /-- IOU.IDX_VERSION: R61. -/
  | ioIdxVersion (p : Nat) (n : Nat) (a : Access)
  /-- IOU.IDX_RT_LOW_0_7: R205. -/
  | ioIdxRtLow0To7 (p : Nat) (n : Nat) (k : BitVec 3) (a : Access)
  /-- IOU.IDX_RT_HIGH_0_7: R205. -/
  | ioIdxRtHigh0To7 (p : Nat) (n : Nat) (k : BitVec 3) (a : Access)
  /-- IOU.IDX_RT_LOW_8_15: R205. -/
  | ioIdxRtLow8To15 (p : Nat) (n : Nat) (k : BitVec 3) (a : Access)
  /-- IOU.IDX_RT_HIGH_8_15: R205. -/
  | ioIdxRtHigh8To15 (p : Nat) (n : Nat) (k : BitVec 3) (a : Access)
  /-- IOU.IDX_reserved: R61. -/
  | ioIdxReserved (p : Nat) (n : Nat) (idx : Byte) (a : Access)
  /-- MSG.FIXED: R141. -/
  | msgFixed (p : Nat) (f : CommandFields)
  /-- MSG.LOWEST_PRIORITY: R163. -/
  | msgLowestPriority (p : Nat) (f : CommandFields)
  /-- MSG.reserved_010: R128. -/
  | msgReserved010 (p : Nat) (f : CommandFields)
  /-- MSG.REMOTE_READ: R172. -/
  | msgRemoteRead (p : Nat) (f : CommandFields)
  /-- MSG.NMI: R166. -/
  | msgNmi (p : Nat) (f : CommandFields)
  /-- MSG.RESET: R167. -/
  | msgReset (p : Nat) (f : CommandFields)
  /-- MSG.reserved_110: R128. -/
  | msgReserved110 (p : Nat) (f : CommandFields)
  /-- MSG.EXTINT: R148. -/
  | msgExtint (p : Nat) (f : CommandFields)
  /-- JTAG.EXTEST: R252. -/
  | jtagExtest (k : Nat) (tdi : List Bool)
  /-- JTAG.SAMPLE_PRELOAD: R253. -/
  | jtagSamplePreload (k : Nat) (tdi : List Bool)
  /-- JTAG.IDCODE: R254. -/
  | jtagIdcode (k : Nat) (tdi : List Bool)
  /-- JTAG.RESERVED_1001: R256. -/
  | jtagReserved1001 (k : Nat) (tdi : List Bool)
  /-- JTAG.BYPASS: R251. -/
  | jtagBypass (k : Nat) (tdi : List Bool)
  /-- JTAG.unlisted_0011: R256. -/
  | jtagUnlisted0011 (k : Nat) (tdi : List Bool)
  /-- JTAG.unlisted_0100: R256. -/
  | jtagUnlisted0100 (k : Nat) (tdi : List Bool)
  /-- JTAG.unlisted_0101: R256. -/
  | jtagUnlisted0101 (k : Nat) (tdi : List Bool)
  /-- JTAG.unlisted_0110: R256. -/
  | jtagUnlisted0110 (k : Nat) (tdi : List Bool)
  /-- JTAG.unlisted_0111: R256. -/
  | jtagUnlisted0111 (k : Nat) (tdi : List Bool)
  /-- JTAG.unlisted_1000: R256. -/
  | jtagUnlisted1000 (k : Nat) (tdi : List Bool)
  /-- JTAG.unlisted_1010: R256. -/
  | jtagUnlisted1010 (k : Nat) (tdi : List Bool)
  /-- JTAG.unlisted_1011: R256. -/
  | jtagUnlisted1011 (k : Nat) (tdi : List Bool)
  /-- JTAG.unlisted_1100: R256. -/
  | jtagUnlisted1100 (k : Nat) (tdi : List Bool)
  /-- JTAG.unlisted_1101: R256. -/
  | jtagUnlisted1101 (k : Nat) (tdi : List Bool)
  /-- JTAG.unlisted_1110: R256. -/
  | jtagUnlisted1110 (k : Nat) (tdi : List Bool)
  /-- FDC.PERPENDICULAR_MODE: R283. -/
  | fdcPerpendicularMode (pr : Byte)
  /-- FDC.DUMPREG_RESULT8: R292. -/
  | fdcDumpregResult8
  deriving DecidableEq, Repr

end Sys2Proof
end

