-- ==== Sys2Proof/Config.lean ====
section
/-!
DEFINITION. What one implementation or one platform fixes (R9, spec/92 section 2) and the free values of spec/93.
Where the spec leaves a parameter OPEN it is either plain data that the state carries and no step changes (`Platform`),
or an `opaque` constant without a body: a claim about it holds for every value.
-/

namespace Sys2Proof

/-! ### The platform (R9) -/

/-- The two address spaces at the bus (R81). -/
inductive Space where
  | memory
  | io
  deriving DecidableEq, Repr

/-- A 1 Kbyte boundary in one of the two spaces (R81): `page` is bits 31:10 of the addresses there. -/
structure Location where
  space : Space
  page  : BitVec 22
  deriving DecidableEq, Repr

/-- What R9 leaves to the platform: `LU_BASE`, `IOU_BASE(n)` for every I/O unit (counted from 0, so that `NIOU` is the length
of the list), and the input ADDSEL of the floppy controller's decoder, which jumper J7 sets (R95, R299). `NCPU` is the
number of packages that have a processor (`Package.hasCpu`). -/
structure Platform where
  lu     : Location
  ious   : List Location
  addsel : Bool
  deriving DecidableEq, Repr

/-- The addresses R82 recommends, in memory space, for four I/O units (the "four 82489DX system" of R66), and the normal
connection of J7, the primary range (R299). DESIGN CHOICE, log 2, log 4: the machine right after reset. -/
def Platform.recommended : Platform where
  lu     := ⟨.memory, 0x3FB800#22⟩
  ious   := [⟨.memory, 0x3FB000#22⟩, ⟨.memory, 0x3FB004#22⟩, ⟨.memory, 0x3FB008#22⟩, ⟨.memory, 0x3FB00C#22⟩]
  addsel := true

/-! ### The processor (R20, D1) -/

/-- What a step of `CpuCore` may depend on: its own state, its input pins INT and NMI (R24, R325; while RESET is high it takes
no step), what its last bus cycle and its last acknowledge returned, the elements of R22 and R23 it shares with this spec,
the platform input of D24, and `choice`, which makes the step a relation: it differs at every step. -/
structure CpuSample where
  core         : Nat
  int          : Bool
  nmi          : Bool
  data         : Word
  vector       : Option Byte
  intrEnabled  : Bool
  pageUncached : Bool
  posted       : Nat
  firstReset   : Bool
  startAddr    : Word
  choice       : Nat
  deriving DecidableEq, Repr

/-- What a processor may issue (R20, R80, R13): a read or a write cycle in one of the two spaces, an acknowledge; or change of
its own accord: its interrupt mask (R22), the mapping of the register page (R90). -/
inductive CpuAction where
  | cycle (space : Space) (width : Width) (access : Access) (addr : Word)
  | acknowledge
  | maskInterrupts (enabled : Bool)
  | mapPage (uncached : Bool)
  deriving DecidableEq, Repr

end Sys2Proof

namespace Sys2Proof.Config

/-- `CpuCore.reset_state` (R366, D1): OPEN. A state of `CpuCore` is held as a number, its code. Log 1. -/
opaque cpuResetState : Nat

/-- `CpuCore.step`, the state after it (R20, D1): OPEN. Log 1. -/
opaque cpuNext : CpuSample → Nat

/-- `CpuCore.step`, what it issues, if anything (R20, D1): OPEN. Log 1. -/
opaque cpuIssues : CpuSample → Option CpuAction

/-- The level the RESET input of a processor reads while the scan path tri-states PRST (R252; not stated). Log 31. -/
opaque floatingReset : Bool

/-- `APIC_VERSION` (R32, D8): OPEN. Only the bits of its two fields are read (R48). Log 6. -/
opaque apicVersion : Word

/-- The implemented bits of the Destination Format Register (R37, R101 "masked"): OPEN. Log 6. -/
opaque dfrMask : Word

/-- `ApicLayout.dfr_is_flat` (R37): OPEN. Log 6. -/
opaque dfrIsFlat : Word → Bool

/-- The implemented bits of the Divider Configuration Register (R46, R101 "masked"): OPEN. Log 6. -/
opaque timerDivMask : Word

/-- `WBUF_DEPTH` (R23, D7): OPEN. Log 12. -/
opaque wbufDepth : Nat

/-- `INTA_FLUSHES_WBUF` (R87, D7): OPEN. Log 12. -/
opaque intaFlushesWbuf : Bool

/-- `RESET_VECTOR` (R96, R366): OPEN. Log 27. -/
opaque resetVector : Word

/-- `CPU_RESERVED_VECTORS` (R310, D23): OPEN. Log 42. -/
opaque cpuReservedVector : Byte → Bool

/-- The level of a tri-state control cell that enables its driver (R252, U20, N26): OPEN. Log 31. -/
opaque controlEnables : Bool

/-- Free value: a 32-bit read of a register the sources give no value (U1, U4), drawn afresh at each use. Log 8. -/
opaque freeWord : Nat → Word

/-- Free value: data of the first acknowledge cycle (U18). Log 8. -/
opaque freeAcknowledgeData : Nat → Word

/-- Free value: what cells of the scan path capture where the sources are silent (U19). Log 8. -/
opaque freeScanPath : Nat → ScanPath

/-- Free value: the upper two stages loaded in Capture-IR (U9). Log 8. -/
opaque freeCaptureIr : Nat → BitVec 2

/-- Free value: bits 7 and 6 of the eighth DUMPREG result byte (U17). Log 8. -/
opaque freeDumpregHigh : Nat → BitVec 2

/-- Free value: whether a byte ends a floppy command that is not in the sources (R281, N51). Log 8, log 33. -/
opaque freeFdcDone : Nat → Bool

/-- Device Identification Register of the TAP (R72, R121): a constant the source states. -/
def deviceId : Word := 0x1489A013#32

end Sys2Proof.Config
end

