-- ==== Sys2Proof/Machine/State.lean ====
section
/-!
DEFINITION. The state of the platform (file 10 of spec/), every element the spec gives it, the schedule that says which
agent acts next, the reasons a step can stop, and the state right after reset. Everything is plain data.
-/

namespace Sys2Proof.Machine

/-! ### Values of named fields -/

/-- Delivery modes (R42, R176). -/
inductive DeliveryMode where
  | fixed
  | lowestPriority
  | remoteRead
  | nmi
  | reset
  | extInt
  deriving DecidableEq, Repr

/-- Trigger modes (R42). -/
inductive TriggerMode where
  | edge
  | level
  deriving DecidableEq, Repr

/-- Destination modes (R42). -/
inductive DestMode where
  | physical
  | logical
  deriving DecidableEq, Repr

/-- Destination shorthands (R42). -/
inductive Shorthand where
  | none
  | self
  | allInclSelf
  | allExclSelf
  deriving DecidableEq, Repr

/-- The value set of the pins PINT and PNMI (R53): `z` is tri-stated. -/
inductive PinLevel where
  | z
  | low
  | high
  deriving DecidableEq, Repr

/-- For which kind of interrupt PINT is asserted (R52). -/
inductive Commit where
  | none
  | external
  | internal
  deriving DecidableEq, Repr

/-- Which of the two cycles of an acknowledge the unit expects next (R55). -/
inductive IntaPhase where
  | idle
  | afterFirst
  deriving DecidableEq, Repr

/-- The glitch detector of an edge-triggered input (R56, R65). -/
inductive EdgeState where
  | waiting
  | seen
  deriving DecidableEq, Repr

/-- The two local interrupt inputs (R56). -/
inductive Lint where
  | lint0
  | lint1
  deriving DecidableEq, Repr

/-- The entries of the Local Vector Table (R43). -/
inductive LvtEntry where
  | timer
  | lint (j : Lint)
  deriving DecidableEq, Repr

/-- An interrupt input pin (active high) and its detector (R56, R65). -/
structure InputPin where
  level : Bool
  edge  : EdgeState
  deriving DecidableEq, Repr

/-! ### Local unit (R30 to R58) -/

/-- Registers and hidden state of a local unit. The Version Register is a constant (R32) and the EOI register holds no
state (R34). -/
structure LocalUnit where
  id             : Word
  tpr            : Word
  remote         : Word
  ldr            : Word
  dfr            : Word
  svr            : Word
  isr            : VectorSet
  tmr            : VectorSet
  irr            : VectorSet
  icrLow         : Word
  icrHigh        : Word
  lvtTimer       : Word
  lvtLint0       : Word
  lvtLint1       : Word
  timerInit      : Word
  timerCur       : Word
  timerDiv       : Word
  arbId          : Byte
  extIntPending  : Bool
  commit         : Commit
  pint           : PinLevel
  pnmi           : PinLevel
  prst           : Bool
  extInta        : Bool
  irrFrozen      : Bool
  intaVector     : Byte
  intaGenuine    : Bool
  intaPhase      : IntaPhase
  lint0          : InputPin
  lint1          : InputPin
  nmiOut         : Bool
  resetOut       : Bool
  deriving DecidableEq, Repr

/-- The reset word of a Local Vector Table entry (R43): mask 1, every other bit 0. -/
def lvtReset : Word := 0x00010000#32

/-- The reset value of a redirection table entry (R64): mask 1, every other bit 0. -/
def rtReset : Word64 := 0x0000000000010000#64

/-- R79, R365: every register of a local unit at its reset value, with the ID register `id`, out of reset, both inputs
low. -/
def LocalUnit.cleared (id : Word) : LocalUnit where
  id             := id
  tpr            := 0#32
  remote         := 0#32
  ldr            := 0#32
  dfr            := 0#32
  svr            := 0#32
  isr            := 0#256
  tmr            := 0#256
  irr            := 0#256
  icrLow         := 0#32
  icrHigh        := 0#32
  lvtTimer       := lvtReset
  lvtLint0       := lvtReset
  lvtLint1       := lvtReset
  timerInit      := 0#32
  timerCur       := 0#32
  timerDiv       := 0#32
  arbId          := 0#8
  extIntPending  := false
  commit         := .none
  pint           := .z
  pnmi           := .z
  prst           := false
  extInta        := false
  irrFrozen      := false
  intaVector     := 0#8
  intaGenuine    := false
  intaPhase      := .idle
  lint0          := ⟨false, .waiting⟩
  lint1          := ⟨false, .waiting⟩
  nmiOut         := false
  resetOut       := false

/-! ### I/O unit (R60 to R65) -/

/-- Registers and input pins of an I/O unit. The Arb ID equals the unit ID at all times (R63, D13). -/
structure IoUnit where
  select    : Word
  id        : Word
  rt        : Vector Word64 16
  pins      : Vector InputPin 16
  levelSent : Vector Bool 16
  deriving DecidableEq, Repr

/-- R214: an I/O unit at its reset values, every input low. -/
def IoUnit.cleared : IoUnit where
  select    := 0#32
  id        := 0#32
  rt        := Vector.replicate 16 rtReset
  pins      := Vector.replicate 16 ⟨false, .waiting⟩
  levelSent := Vector.replicate 16 false

/-! ### Test access port (R70 to R75) -/

/-- The sixteen controller states (R70). -/
inductive TapState where
  | testLogicReset
  | runTestIdle
  | selectDr
  | captureDr
  | shiftDr
  | exit1Dr
  | pauseDr
  | exit2Dr
  | updateDr
  | selectIr
  | captureIr
  | shiftIr
  | exit1Ir
  | pauseIr
  | exit2Ir
  | updateIr
  deriving DecidableEq, Repr

/-- The TAP of a package. `scanOut` is the model's own record of the bits a tester has seen on `tdo` since the last
Capture state, first bit first (log 30). -/
structure Tap where
  state    : TapState
  irShift  : BitVec 4
  ir       : BitVec 4
  didShift : Word
  bypass   : Bool
  bsrShift : ScanPath
  bsrLatch : ScanPath
  scanOut  : List Bool
  deriving DecidableEq, Repr

/-- The idcode opcode (R71, R120). -/
def idcodeOpcode : BitVec 4 := 0b0010#4

/-- R233, R368: the TAP after its own reset; the shift stages have no stated reset value (log 7). -/
def Tap.cleared : Tap where
  state    := .testLogicReset
  irShift  := 0#4
  ir       := idcodeOpcode
  didShift := 0#32
  bypass   := false
  bsrShift := 0#137
  bsrLatch := 0#137
  scanOut  := []

/-! ### Processor (R20 to R25) -/

/-- A processor: the code of its own opaque state `CpuCore.State` (R20, log 1) and what the spec fixes of it. `data` and
`vector` are what the last bus cycle and the last acknowledge returned to it (log 7). -/
structure Cpu where
  core         : Nat
  intrEnabled  : Bool
  wbuf         : List (Word × Word)
  startAddr    : Word
  pageUncached : Bool
  data         : Word
  vector       : Option Byte
  deriving DecidableEq, Repr

/-- R366: the processor when it leaves reset. -/
def Cpu.started : Cpu where
  core         := Config.cpuResetState
  intrEnabled  := false
  wbuf         := []
  startAddr    := Config.resetVector
  pageUncached := true
  data         := 0#32
  vector       := none

/-! ### Package (R66) -/

/-- One package: its processor, local unit, I/O unit and TAP, the RESET pin and the address pins A10 to A3 (R360,
R362), `needsReset` (R368), `firstReset`, the platform's input to the processor that tells the very first reset from a later
one (R340, D24, log 27), and the level on the pin of each scan cell that no other field holds (R260). `hasCpu`, which
no step changes, says that the package is used as the local unit of a processor (R9, R66); without it the package is an
I/O unit only. `view` is memory as that processor sees it: canonical cells (R93, log 9, log 44). -/
structure Package where
  hasCpu     : Bool
  cpu        : Cpu
  view       : List Host.Cell
  lu         : LocalUnit
  iou        : IoUnit
  tap        : Tap
  resetPin   : Bool
  addrPins   : Byte
  needsReset : Bool
  firstReset : Bool
  extPins    : ScanPath
  deriving DecidableEq, Repr

/-- R31, R48: the ID register word that holds `unit`. -/
def idWord (unit : Byte) : Word := unit ++ 0#24

/-- R79, R366: a package right after the fall of RESET, its address pins having read `pins`; the platform says that this was the
first reset (DESIGN CHOICE, log 27). -/
def Package.atReset (hasCpu : Bool) (pins : Byte) : Package where
  hasCpu     := hasCpu
  cpu        := Cpu.started
  view       := []
  lu         := LocalUnit.cleared (idWord pins)
  iou        := IoUnit.cleared
  tap        := Tap.cleared
  resetPin   := false
  addrPins   := pins
  needsReset := false
  firstReset := true
  extPins    := 0#137

/-! ### ICC bus (R68) -/

/-- The unit a message came from: a local unit, or pin `k` of an I/O unit. The model's own addition to the record of
R68: the delivery state (R174) and Remote IRR (R210) return to it. -/
inductive Source where
  | local (p : Nat)
  | io (n : Nat) (k : Fin 16)
  deriving DecidableEq, Repr

/-- A message (R68). -/
structure Message where
  source      : Source
  srcId       : Byte
  vector      : Byte
  mode        : DeliveryMode
  destMode    : DestMode
  level       : Bool
  trigger     : TriggerMode
  destination : Word
  shorthand   : Shorthand
  deriving DecidableEq, Repr

/-- Messages sent and not carried yet, and the one the bus carries now. -/
structure IccBus where
  queue   : List Message
  carried : Option Message
  deriving DecidableEq, Repr

/-- R68: the bus carries one message at a time. -/
def IccBus.busy (b : IccBus) : Bool := b.carried.isSome

/-! ### Floppy controller (R76, R77) -/

/-- The stored perpendicular-mode bits (R76). -/
structure PerpBits where
  d3    : Bool
  d2    : Bool
  d1    : Bool
  d0    : Bool
  gap   : Bool
  wgate : Bool
  deriving DecidableEq, Repr

/-- Data rates (R77). -/
inductive DataRate where
  | kbps250
  | kbps300
  | kbps500
  | mbps1
  deriving DecidableEq, Repr

/-- The rows of Table 2 (R285), named by GAP and WGATE. -/
inductive ModeRow where
  | row00
  | row01
  | row10
  | row11
  deriving DecidableEq, Repr

/-- The configuration of a data transfer command (R284), with the numbers of its row (R285): lengths in bytes,
precompensation in nanoseconds. -/
structure TransferConfig where
  row              : ModeRow
  precompForcedOff : Bool
  precomp          : Nat
  gap2Format       : Nat
  gap2Written      : Nat
  vcoRead          : Nat
  vcoAfterIndex    : Nat
  deriving DecidableEq, Repr

/-- What the controller expects at its FIFO (R281): a command, the second byte of the perpendicular mode command, or more bytes
of a command that is not in the sources (N51, log 33). -/
inductive FdcPhase where
  | command
  | parameter
  | other
  deriving DecidableEq, Repr

/-- The floppy controller. `config` is the configuration of the last data transfer command and `result` the last
eighth DUMPREG byte read; both are the model's own (log 7). -/
structure Fdc where
  pr       : PerpBits
  phase    : FdcPhase
  rate     : DataRate
  drive    : BitVec 2
  precomp  : Nat
  config   : TransferConfig
  result   : Byte
  deriving DecidableEq, Repr

/-- The data transfer commands whose configuration R284 gives. -/
inductive Transfer where
  | read
  | write
  | format
  deriving DecidableEq, Repr

/-! ### The schedule -/

/-- An event at the pins of a TAP (R231). An undriven `tms` or `tdi` is `none` and reads 1 (R75). -/
inductive TapEvent where
  | rise (tms tdi : Option Bool)
  | fall
  | trstLow
  deriving DecidableEq, Repr

/-- An action that is no operation of the table: of the outside world, of a unit on its own, or of the part of a
processor the spec names. -/
inductive Event where
  /-- The RESET pin of package `k` goes high, or is sampled high again (R360). -/
  | resetAssert (k : Nat)
  /-- The RESET pin of package `k` falls (R360, R366). -/
  | resetRelease (k : Nat)
  /-- The level on the address pins A10 to A3 of package `k` (R362). -/
  | addressPins (k : Nat) (v : Byte)
  /-- The platform's input `first_reset` of the processor of package `k` takes a level (R340, D24). -/
  | firstReset (k : Nat) (b : Bool)
  /-- LINTIN`j` of package `k` takes a level (R56, R181, R183). -/
  | lintPin (k : Nat) (j : Lint) (level : Bool)
  /-- The local unit of package `k` samples LINTIN`j` the second time (R181). -/
  | lintSample (k : Nat) (j : Lint)
  /-- INTIN`i` of package `k` takes a level (R65, R206, R207). -/
  | intPin (k : Nat) (i : Fin 16) (level : Bool)
  /-- The I/O unit of package `k` is about to send for an edge input: second sampling (R181, R206). -/
  | ioSample (k : Nat)
  /-- The pin of scan cell `c` + 1 of package `k` takes a level, where no other field holds it (R260). -/
  | otherPin (k : Nat) (c : Fin 137) (level : Bool)
  /-- One divided clock of the timer of package `k` (R58). -/
  | timerTick (k : Nat)
  /-- The `i`-th waiting message wins the ICC bus (R160). -/
  | arbitrate (i : Nat)
  /-- The message on the ICC bus is delivered; `choice` are the units that win where R163 leaves a choice. -/
  | deliver (choice : List Nat)
  /-- The oldest posted write of processor `p` drains (R85, R88). -/
  | drain (p : Nat)
  /-- Processor `p` takes one step of `CpuCore` (R20). -/
  | cpuStep (p : Nat)
  /-- The `i`-th byte written by one processor and not yet seen by another comes into the other's sight (R93). -/
  | storeSeen (i : Nat)
  /-- Processor `p` runs the first cycle of an interrupt acknowledge (R317, R320). -/
  | intaFirst (p : Nat)
  /-- Processor `p` runs the second cycle; `ext` is what an external 8259A answers, if it is asked (R320, R321). -/
  | intaSecond (p : Nat) (ext : Byte)
  /-- Processor `p` sets or clears its interrupt mask (R22). -/
  | setIntrEnabled (p : Nat) (b : Bool)
  /-- Software of processor `p` maps the register page uncached or not (R90). -/
  | setPageUncached (p : Nat) (b : Bool)
  /-- An event at the TAP of package `k` (R231). -/
  | tap (k : Nat) (e : TapEvent)
  /-- A byte is written to the data FIFO of the floppy controller (R281). -/
  | fifoWrite (b : Byte)
  /-- Software reset of the floppy controller, through DOR or DSR (R293). -/
  | fdcSoftwareReset
  /-- Hardware reset of the floppy controller (R293). -/
  | fdcHardwareReset
  /-- The data rate is programmed (R77). -/
  | fdcRate (r : DataRate)
  /-- The write precompensation is programmed, in nanoseconds (R77). -/
  | fdcPrecomp (ns : Nat)
  /-- A data transfer command starts on a drive (R284). -/
  | fdcTransfer (t : Transfer) (drive : BitVec 2)
  deriving DecidableEq, Repr

/-- One entry of the schedule: an operation at a port, in its encoded form, or an event. -/
inductive Input where
  | op (c : Cycle)
  | event (e : Event)
  deriving DecidableEq, Repr

/-- Marks of spec/93 that leave the state as it is and must not be lost (D10, log 10). -/
inductive Flagged where
  /-- `Undefined("reserved register")`: a write to a reserved selector or index (U1). -/
  | reservedRegister
  deriving DecidableEq, Repr

/-- A byte that one processor has written at `addr` and that the processor of package `observer` does not see yet (R93:
nothing is said of when it does, log 44). -/
structure Store where
  observer : Nat
  addr     : Word
  byte     : Byte
  deriving DecidableEq, Repr

/-- The machine: the platform it is (R9), which no step changes, and what runs on it. -/
structure State where
  platform : Platform
  packages : List Package
  icc      : IccBus
  fdc      : Fdc
  unseen   : List Store
  fresh    : Nat
  flagged  : List Flagged
  input    : List Input
  deriving DecidableEq, Repr

/-! ### Why a step stops -/

/-- Faults: cases that spec/93 treats as `fault`. Each stops a run where hardware would go on in a way the sources do not
describe, so each is safe. -/
inductive Fault where
  /-- U3, raised by a bus cycle in an 82489DX page that is not an aligned 32-bit access. Safe. -/
  | partialOrOffsetAccess
  /-- U6, raised by a write of the ICR low word: a delivery mode code that names no mode, or items 1 to 5 of R171. Safe. -/
  | icrCombination
  /-- U6, raised by an ICR write or a firing input: a delivery and trigger pair outside the table of R176. Safe. -/
  | deliveryTriggerCombination
  /-- U6, raised by a firing local source: a Local Vector Table delivery mode that R180 gives no meaning. Safe. -/
  | lvtDeliveryMode
  /-- U6, raised by a firing INTIN pin: a redirection delivery mode that names no mode, or Remote Read (R205). Safe. -/
  | redirectionDeliveryMode
  /-- U7, raised by a write of the ICR low word while the delivery state is not Idle. Safe. -/
  | icrWrittenWhileBusy
  /-- U11, raised by a write of the SVR that clears bit 8 of an enabled unit. Safe. -/
  | localUnitDisabledBySvr
  /-- U12, raised when a Logical destination must be matched against a Destination Format that is not flat. Safe. -/
  | dfrFormat
  /-- Raised by an operation or event of a processor, package or I/O unit that the platform does not have (R9). Safe. -/
  | noSuchUnit
  deriving DecidableEq, Repr

/-- Refusals: cases that spec/93 treats as `refuse`, and units whose behaviour the spec does not give. Each is safe. -/
inductive Refusal where
  /-- An operation of the table that has no meaning yet; raised by `exec` only. Safe. -/
  | notModelled (mnemonic : String)
  /-- U5, raised by a register access while the page is not mapped uncached. Safe. -/
  | apicPageCached
  /-- U10, raised when a reserved or unlisted JTAG opcode becomes, or would become, the current instruction. Safe. -/
  | jtagOpcode
  /-- U13, raised when a message is carried while two units that use the bus have one ID (R370). Safe. -/
  | duplicateUnitId
  /-- U16, raised by functional use of a package after extest was latched, before a hardware reset (R368). Safe. -/
  | needsHardwareReset
  /-- Raised by an I/O cycle at a port of the floppy controller: which register a port is is not in the sources (N50). Safe. -/
  | floppyPortUnassigned
  /-- Raised by an I/O cycle that selects no 82489DX register and not the floppy controller: nothing in the sources answers it
  (N48). Safe. -/
  | ioPortOutsideSpec
  /-- Raised by a command word with reserved bits, or a word too wide for its port: it stands for no operation. Safe. -/
  | malformedWord
  deriving DecidableEq, Repr

/-! ### Reset -/

/-- R285: the numbers of row '00'. -/
def TransferConfig.conventional : TransferConfig where
  row              := .row00
  precompForcedOff := false
  precomp          := 0
  gap2Format       := 22
  gap2Written      := 0
  vcoRead          := 24
  vcoAfterIndex    := 33

/-- R293: the floppy controller after a hardware reset; rate, drive and precompensation are DESIGN CHOICE (log 7). -/
def Fdc.cleared : Fdc where
  pr       := ⟨false, false, false, false, false, false⟩
  phase    := .command
  rate     := .kbps250
  drive    := 0#2
  precomp  := 0
  config   := .conventional
  result   := 0#8

/-- A machine right after a hardware reset of every package (R366, R367, R79), with an empty schedule: on the platform `pf`,
with a package for each entry of `kinds`, which says whether it has a processor and what its address pins read. -/
def State.resetOn (pf : Platform) (kinds : List (Bool × Byte)) : State where
  platform := pf
  packages := kinds.map fun x => Package.atReset x.1 x.2
  icc      := ⟨[], none⟩
  fdc      := Fdc.cleared
  unseen   := []
  fresh    := 0
  flagged  := []
  input    := []

/-- The machine right after reset: the recommended platform with four packages, each with a processor, that latched the IDs
0 to 3 (DESIGN CHOICE, log 2, log 4: R9 leaves all of it to the platform). -/
def State.reset : State := State.resetOn .recommended [(true, 0#8), (true, 1#8), (true, 2#8), (true, 3#8)]

end Sys2Proof.Machine
end

