-- ==== Sys2Proof/Machine/Fields.lean ====
section
/-!
DEFINITION. Bits of a word, the masked write of R101 and R49, and the packing of two words into a redirection entry.
-/

namespace Sys2Proof.Machine

/-- `w` with bit `i` at `b`. -/
def setBit {n : Nat} (w : BitVec n) (i : Nat) (b : Bool) : BitVec n :=
  if b then w ||| (1#n <<< i) else w &&& ~~~(1#n <<< i)

/-- R101 "masked": the bits of `mask` are written, those of `keep` keep what the register holds (R49: read-only fields),
and all others are reserved and stored as 0 (R48). -/
def writeMasked {n : Nat} (mask keep old v : BitVec n) : BitVec n := (old &&& keep) ||| (v &&& mask)

/-- Low word of a 64-bit entry (R61). -/
def lowWord (e : Word64) : Word := e.extractLsb' 0 32

/-- High word of a 64-bit entry (R61). -/
def highWord (e : Word64) : Word := e.extractLsb' 32 32

/-- A 64-bit entry from its two words (R84: word "(31:0)" at the lower place). -/
def joinWords (hi lo : Word) : Word64 := hi ++ lo

/-- Word `k` of a 256-bit register (R30): bits `32k+31 : 32k`. -/
def vectorWord (r : VectorSet) (k : BitVec 3) : Word := r.extractLsb' (32 * k.toNat) 32

/-- The word a register read of ISR, TMR or IRR returns (R39, R100): bits 15:0 of word 0 read 0. -/
def readVectorWord (r : VectorSet) (k : BitVec 3) : Word :=
  if k = 0#3 then vectorWord r k &&& 0xFFFF0000#32 else vectorWord r k

/-- Bit `v` of a 256-bit register. -/
def hasVector (r : VectorSet) (v : Byte) : Bool := r.getLsbD v.toNat

/-- `max { v | r[v] = 1 }`, if any (R144, R146, R150, R320). -/
def highest (r : VectorSet) : Option Byte :=
  if r = 0#256 then none else some (BitVec.ofNat 8 r.toNat.log2)

end Sys2Proof.Machine
end

