-- ==== Sys2Proof/Machine/Operands.lean ====
section
/-!
DEFINITION. `ApicLayout` (R48), in its default instance (PRESUMED, log 5): where each named field of a register stands
and what each code means; the bits software may write; and what a read of each local unit register returns (R100).
-/

namespace Sys2Proof.Machine

/-! ### Fields -/

/-- `ID.unit_id`, bits 31:24 (local and I/O unit). -/
def unitIdOf (w : Word) : Byte := w.extractLsb' 24 8

/-- `TPR.level`, bits 7:4. -/
def taskPriority (w : Word) : Nat := (w.extractLsb' 4 4).toNat

/-- The bits of the Version Register that belong to a field; the others read 0 (R48). -/
def versionFields : Word := 0x00FF00FF#32

/-- The word the Version Register holds, in a local unit and in an I/O unit (R32, R61). -/
def versionWord : Word := Config.apicVersion &&& versionFields

/-- `VERSION.version`, bits 7:0. -/
def versionOf (w : Word) : Byte := w.extractLsb' 0 8

/-- `VERSION.max_lvt`, bits 23:16. -/
def maxLvtOf (w : Word) : Byte := w.extractLsb' 16 8

/-- `SVR.enable`, bit 8 (the one position the source states). -/
def svrEnable (w : Word) : Bool := w.getLsbD 8

/-- `SVR.vector`, bits 7:0. -/
def svrVector (w : Word) : Byte := w.extractLsb' 0 8

/-- `X.vector`, bits 7:0, of a command or an entry. -/
def vectorOf (w : Word) : Byte := w.extractLsb' 0 8

/-- `X.delivery_mode`, bits 10:8, as a code. -/
def modeCodeOf (w : Word) : BitVec 3 := w.extractLsb' 8 3

/-- The delivery mode a code names; 010 and 110 name none. -/
def deliveryModeOf (code : BitVec 3) : Option DeliveryMode :=
  match code.toNat with
  | 0 => some .fixed
  | 1 => some .lowestPriority
  | 3 => some .remoteRead
  | 4 => some .nmi
  | 5 => some .reset
  | 7 => some .extInt
  | _ => none

/-- `X.dest_mode`, bit 11. -/
def destModeOf (w : Word) : DestMode := if w.getLsbD 11 then .logical else .physical

/-- Position of `X.delivery_state`. -/
def deliveryStateBit : Nat := 12

/-- `X.delivery_state`, bit 12: 1 is send pending (not Idle). -/
def sendPending (w : Word) : Bool := w.getLsbD deliveryStateBit

/-- Position of `remote_irr` of a redirection or LINT entry. -/
def remoteIrrBit : Nat := 14

/-- `ICR.level`, bit 14. -/
def levelOf (w : Word) : Bool := w.getLsbD 14

/-- `X.trigger_mode`, bit 15. -/
def triggerOf (w : Word) : TriggerMode := if w.getLsbD 15 then .level else .edge

/-- `RT[k].mask`, `LVT[k].mask`, bit 16. -/
def maskedOf (w : Word) : Bool := w.getLsbD 16

/-- `LVT[timer].mode`, bit 17. -/
def periodicOf (w : Word) : Bool := w.getLsbD 17

/-- `ICR.remote_read_status`, bits 17:16. -/
def readStatusOf (w : Word) : BitVec 2 := w.extractLsb' 16 2

/-- `w` with `remote_read_status` at `c`. -/
def setReadStatus (w : Word) (c : BitVec 2) : Word := writeMasked 0x00030000#32 0xFFFCFFFF#32 w ((c ++ 0#16).setWidth 32)

/-- Remote read status codes (R48, R172). -/
def readInvalid : BitVec 2 := 0b00#2

/-- In progress. -/
def readInProgress : BitVec 2 := 0b01#2

/-- Valid. -/
def readValid : BitVec 2 := 0b10#2

/-- `ICR.dest_shorthand`, bits 19:18. -/
def shorthandOf (w : Word) : Shorthand :=
  match (w.extractLsb' 18 2).toNat with
  | 0 => .none
  | 1 => .self
  | 2 => .allInclSelf
  | _ => .allExclSelf

/-- The destination a message carries: bits 63:56 when Physical, bits 63:32 when Logical, of which `hi` is the high word. -/
def destinationOf (mode : DestMode) (hi : Word) : Word :=
  match mode with
  | .physical => (hi.extractLsb' 24 8).setWidth 32
  | .logical => hi

/-- `RemoteSel` (R172): the vector field carries bits 9:4 of the address of the register to read. -/
def remoteSelector (v : Byte) : BitVec 6 := v.extractLsb' 0 6

/-! ### Bits software may write (R48: the rest is reserved or read only) -/

/-- ID: the unit ID. -/
def idMask : Word := 0xFF000000#32
/-- TPR: eight bits, of which the low four are a sub-level no rule uses (R33). -/
def tprMask : Word := 0x000000FF#32
/-- SVR: enable and vector. -/
def svrMask : Word := 0x000001FF#32
/-- ICR low word: all fields but `delivery_state` and `remote_read_status`. -/
def icrMask : Word := 0x000CCFFF#32
/-- LVT[lint0], LVT[lint1]: vector, delivery mode, trigger mode, mask. -/
def lvtLintMask : Word := 0x000187FF#32
/-- LVT[timer]: the same and the timer mode. -/
def lvtTimerMask : Word := 0x000387FF#32
/-- Low word of a redirection entry: vector, delivery mode, destination mode, trigger mode, mask. -/
def rtLowMask : Word := 0x00018FFF#32
/-- The read-only fields of the ICR low word. -/
def icrReadOnly : Word := 0x00031000#32
/-- The read-only fields of a redirection entry and of a LINT entry (delivery state, remote IRR). -/
def entryReadOnly : Word := 0x00005000#32
/-- The read-only field of the timer entry (delivery state; remote IRR belongs to the other entries only). -/
def timerReadOnly : Word := 0x00001000#32

/-! ### What a read of a local unit register returns (R100); `none` is `any value` (U1, U4) -/

/-- R31. -/
def readId (u : LocalUnit) : Option Word := some u.id
/-- R32. -/
def readVersion (_ : LocalUnit) : Option Word := some versionWord
/-- R33. -/
def readTpr (u : LocalUnit) : Option Word := some u.tpr
/-- R34: not described. -/
def readEoi (_ : LocalUnit) : Option Word := none
/-- R35. -/
def readRemote (u : LocalUnit) : Option Word := some u.remote
/-- R36. -/
def readLdr (u : LocalUnit) : Option Word := some u.ldr
/-- R37. -/
def readDfr (u : LocalUnit) : Option Word := some u.dfr
/-- R38. -/
def readSvr (u : LocalUnit) : Option Word := some u.svr
/-- R39. -/
def readIsr (k : BitVec 3) (u : LocalUnit) : Option Word := some (readVectorWord u.isr k)
/-- R40. -/
def readTmr (k : BitVec 3) (u : LocalUnit) : Option Word := some (readVectorWord u.tmr k)
/-- R41. -/
def readIrr (k : BitVec 3) (u : LocalUnit) : Option Word := some (readVectorWord u.irr k)
/-- R42, low word. -/
def readIcrLow (u : LocalUnit) : Option Word := some u.icrLow
/-- R42, high word. -/
def readIcrHigh (u : LocalUnit) : Option Word := some u.icrHigh
/-- R43, timer. -/
def readLvtTimer (u : LocalUnit) : Option Word := some u.lvtTimer
/-- R43, local int 0. -/
def readLvtLint0 (u : LocalUnit) : Option Word := some u.lvtLint0
/-- R43, local int 1. -/
def readLvtLint1 (u : LocalUnit) : Option Word := some u.lvtLint1
/-- R44. -/
def readTimerInit (u : LocalUnit) : Option Word := some u.timerInit
/-- R45. -/
def readTimerCur (u : LocalUnit) : Option Word := some u.timerCur
/-- R46. -/
def readTimerDiv (u : LocalUnit) : Option Word := some u.timerDiv
/-- R47: not described. -/
def readReserved (_ : LocalUnit) : Option Word := none

/-- `LocalRead` (R100) by selector; Remote Read reads through it (R172). -/
def localRead (sel : BitVec 6) (u : LocalUnit) : Option Word :=
  match sel.toNat with
  | 0b000010 => readId u
  | 0b000011 => readVersion u
  | 0b001000 => readTpr u
  | 0b001011 => readEoi u
  | 0b001100 => readRemote u
  | 0b001101 => readLdr u
  | 0b001110 => readDfr u
  | 0b001111 => readSvr u
  | 0b110000 => readIcrLow u
  | 0b110001 => readIcrHigh u
  | 0b110010 => readLvtTimer u
  | 0b110101 => readLvtLint0 u
  | 0b110110 => readLvtLint1 u
  | 0b111000 => readTimerInit u
  | 0b111001 => readTimerCur u
  | 0b111110 => readTimerDiv u
  | _ =>
    let k : BitVec 3 := sel.extractLsb' 0 3
    if sel.extractLsb' 3 3 = 0b010#3 then readIsr k u
    else if sel.extractLsb' 3 3 = 0b011#3 then readTmr k u
    else if sel.extractLsb' 3 3 = 0b100#3 then readIrr k u
    else readReserved u

end Sys2Proof.Machine
end

