-- ==== Sys2Proof/Machine/Flags.lean ====
section
/-!
DEFINITION. The conditions the interrupt path is decided by: levels and priorities (R115, R144, R163), the focus (R163),
destination match (R162), the allowed command combinations (R171, R176), and the levels on the pins (R24, R252, R367).
-/

namespace Sys2Proof.Machine

/-! ### Priorities -/

/-- R115: `level(v) = v[7:4]`. -/
def level (v : Byte) : Nat := (v.extractLsb' 4 4).toNat

/-- R38: `enabled := SVR[8]`. -/
def enabled (u : LocalUnit) : Bool := svrEnable u.svr

/-- R144: `isrpri`. -/
def isrPriority (u : LocalUnit) : Nat :=
  match highest u.isr with
  | some v => level v
  | none => 0

/-- R144: `procpri`. -/
def processorPriority (u : LocalUnit) : Nat := max (taskPriority u.tpr) (isrPriority u)

/-- R146, R320: the highest pending vector, if its level is above the processor priority. -/
def dispensable (u : LocalUnit) : Option Byte :=
  match highest u.irr with
  | some v => if processorPriority u < level v then some v else none
  | none => none

/-- R163: the priority compared in lowest priority delivery also counts the highest pending level. -/
def arbitrationPriority (u : LocalUnit) : Nat :=
  max (processorPriority u) (match highest u.irr with | some v => level v | none => 0)

/-- R163: the unit holds `v` pending or in service. -/
def isFocus (v : Byte) (u : LocalUnit) : Bool := hasVector u.irr v || hasVector u.isr v

/-! ### Meaningful commands -/

/-- The table of R176. -/
def meaningful : DeliveryMode → TriggerMode → Bool
  | .fixed, _ => true
  | .lowestPriority, _ => true
  | .remoteRead, .edge => true
  | .remoteRead, .level => false
  | .nmi, .edge => false
  | .nmi, .level => true
  | .reset, .edge => false
  | .reset, .level => true
  | .extInt, .edge => true
  | .extInt, .level => false

/-- Items 1 to 5 of R171, for the command word `w` with the high word `hi`. Item 3 forbids the broadcast destination; with
shorthand Self the field is not used. Item 5 is read as the assert form (C9, log 23). -/
def restricted (mode : DeliveryMode) (w hi : Word) : Bool :=
  match mode with
  | .extInt => shorthandOf w != .none
  | .remoteRead =>
    triggerOf w == .level || destModeOf w == .logical
      || (shorthandOf w == .none && hi.extractLsb' 24 8 == 0xFF#8)
      || shorthandOf w == .allInclSelf || shorthandOf w == .allExclSelf
  | .reset => levelOf w && (shorthandOf w == .self || shorthandOf w == .allInclSelf)
  | _ => false

/-! ### Destination match (R161, R162) -/

/-- The flat logical match: `(LDR and destination) != 0`. -/
def logicalMatch (ldr destination : Word) : Bool := (ldr &&& destination) != 0#32

/-- R161: whether the local unit of package `k` can receive a message of this delivery mode: the package is used as a local
unit (R66), RESET does not hold it (R360), and it is enabled unless the message is a Reset (D18). -/
def receives (mode : DeliveryMode) (k : Package) : Bool := k.hasCpu && !k.resetPin && (enabled k.lu || mode == .reset)

/-- R162: whether message `m` addresses the local unit `u` of package `q`, among those that can receive it. -/
def addresses (m : Message) (q : Nat) (u : LocalUnit) : Bool :=
  match m.shorthand with
  | .allInclSelf => true
  | .allExclSelf => m.source != .local q
  | .self => false
  | .none =>
    match m.destMode with
    | .physical => m.destination.extractLsb' 0 8 == 0xFF#8 || unitIdOf u.id == m.destination.extractLsb' 0 8
    | .logical => logicalMatch u.ldr m.destination

/-! ### Pins -/

/-- The level a tri-state output cell drives under extest (R252): `data` and `control` are cell numbers; the enabling
level of the control cell is a parameter (U20). -/
def scanDrive (t : Tap) (data control : Nat) : PinLevel :=
  if t.bsrLatch.getLsbD (control - 1) == Config.controlEnables then
    (if t.bsrLatch.getLsbD (data - 1) then .high else .low)
  else .z

/-- The extest opcode (R120). -/
def extestOpcode : BitVec 4 := 0b0000#4

/-- Whether the pins are driven from the boundary scan register (R245). -/
def scanDriven (t : Tap) : Bool := t.ir == extestOpcode

/-- The pin PINT (R53); cells 118 and 119 drive it under extest. -/
def pinPint (k : Package) : PinLevel := if scanDriven k.tap then scanDrive k.tap 118 119 else k.lu.pint

/-- The pin PNMI (R53); cells 120 and 121. -/
def pinPnmi (k : Package) : PinLevel := if scanDriven k.tap then scanDrive k.tap 120 121 else k.lu.pnmi

/-- A two-valued output as a pin level. -/
def driven (b : Bool) : PinLevel := if b then .high else .low

/-- The pin PRST (R53); cells 122 and 123. -/
def pinPrst (k : Package) : PinLevel := if scanDriven k.tap then scanDrive k.tap 122 123 else driven k.lu.prst

/-- The pin ExtINTA (R53); cell 124, whose control cell is 125 (printed "(reserved)", R260; log 31). -/
def pinExtInta (k : Package) : PinLevel := if scanDriven k.tap then scanDrive k.tap 124 125 else driven k.lu.extInta

/-- `CPU[p].INT` (R24); a tri-stated pin reads low. -/
def cpuInt (k : Package) : Bool := pinPint k == .high

/-- `CPU[p].NMI` (R24, R325). -/
def cpuNmi (k : Package) : Bool := pinPnmi k == .high

/-- `CPU[p].RESET` (R24): the level on PRST. What the input reads while the scan path tri-states the pin is not stated: a
parameter (log 31). -/
def cpuReset (k : Package) : Bool :=
  match pinPrst k with
  | .high => true
  | .low => false
  | .z => Config.floatingReset

/-- The local unit is in reset: RESET is asserted (R360), or it drives PRST, during which it is itself reset (R167). It
then ignores writes (log 41). -/
def unitHeld (k : Package) : Bool := k.resetPin || k.lu.prst

/-- The processor issues no bus cycle: it is held in reset (R24), or it is between the two cycles of an acknowledge,
which are back to back (R320). -/
def cpuHeld (k : Package) : Bool := cpuReset k || k.lu.intaPhase == .afterFirst

/-- R317: the processor may start an acknowledge. -/
def mayAcknowledge (k : Package) : Bool := cpuInt k && k.cpu.intrEnabled && !cpuHeld k

/-- R24, R366: `k`, which a change at its pins has made of `old`: if the RESET input of its processor fell, the processor starts
from its reset state (log 27). -/
def startedOnFall (old k : Package) : Package :=
  if cpuReset old && !cpuReset k then { k with cpu := Cpu.started } else k

end Sys2Proof.Machine
end

