-- ==== Sys2Proof/Machine/Ops.lean ====
section
/-!
DEFINITION. The named operations every family is built from: outcomes in sequence, memory, packages, free values, the
dispensing of interrupts (R146), their acceptance (R141, R148, R166), TAKING one (the acknowledge, R320 to R322) and the
RETURN from one (the end of interrupt, R150), and the two resets of a local unit (R360, R361).
-/

namespace Sys2Proof.Machine

/-! ### Outcomes -/

/-- The outcome of a step of this machine. -/
abbrev Res := Host.Outcome State Fault Refusal

/-- `f` after `r`, if `r` gives a next state. -/
def andThen (r : Res) (f : State → Res) : Res :=
  match r with
  | .next s => f s
  | .fault e => .fault e
  | .refused e => .refused e

/-! ### Memory as one processor sees it (R81, R84, R93): a canonical list of cells; an unlisted byte reads 0 (log 9) -/

/-- The byte at `a`. -/
def memRead (m : List Host.Cell) (a : Nat) : Byte :=
  match m with
  | [] => 0#8
  | (b, v) :: r => if a = b then v else memRead r a

/-- `m` with the byte `v` at `a`. -/
def memWrite (m : List Host.Cell) (a : Nat) (v : Byte) : List Host.Cell :=
  match m with
  | [] => if v = 0#8 then [] else [(a, v)]
  | (b, w) :: r =>
    if a < b then (if v = 0#8 then (b, w) :: r else (a, v) :: (b, w) :: r)
    else if a = b then (if v = 0#8 then r else (a, v) :: r)
    else (b, w) :: memWrite r a v

/-- Every address is at least `lo` and below 2^32, addresses rise strictly, and no listed byte is 0. -/
def wfFrom (lo : Nat) (m : List Host.Cell) : Bool :=
  match m with
  | [] => true
  | (b, w) :: r => decide (lo ≤ b) && decide (b < 2 ^ 32) && w != 0#8 && wfFrom (b + 1) r

/-- The canonical form. -/
def Memory.wf (m : List Host.Cell) : Bool := wfFrom 0 m

/-- The bytes of an access of `n` bytes at `a`, lowest first; addresses wrap (R81: 32 bits). -/
def accessAddresses (a : Word) (n : Nat) : List Word := (List.range n).map fun i => a + BitVec.ofNat 32 i

/-- Number of bytes of an access (R21). -/
def widthBytes : Width → Nat
  | .byte => 1
  | .half => 2
  | .dword => 4

/-- R84: the value of bytes listed from the lowest address, little-endian. -/
def readBytes (m : List Host.Cell) : List Word → Nat
  | [] => 0
  | a :: r => (memRead m a.toNat).toNat + 256 * readBytes m r

/-- R84: `v` stored little-endian at the listed addresses. -/
def writeBytes (m : List Host.Cell) (v : Nat) : List Word → List Host.Cell
  | [] => m
  | a :: r => writeBytes (memWrite m a.toNat (BitVec.ofNat 8 v)) (v / 256) r

/-! ### Packages -/

/-- `s` with package `p` replaced by `f` of it. -/
def modifyPackage (s : State) (p : Nat) (f : Package → Package) : State :=
  { s with packages := s.packages.modify p f }

/-- `s` with the local unit of package `p` replaced by `f` of it. -/
def modifyLocal (s : State) (p : Nat) (f : LocalUnit → LocalUnit) : State :=
  modifyPackage s p fun k => { k with lu := f k.lu }

/-- `s` with the I/O unit of package `n` replaced by `f` of it. -/
def modifyIo (s : State) (n : Nat) (f : IoUnit → IoUnit) : State :=
  modifyPackage s n fun k => { k with iou := f k.iou }

/-- `s` with the processor of package `p` replaced by `f` of it. -/
def modifyCpu (s : State) (p : Nat) (f : Cpu → Cpu) : State :=
  modifyPackage s p fun k => { k with cpu := f k.cpu }

/-- `f` of package `p`; a fault where the platform has none. -/
def withPackage (s : State) (p : Nat) (f : Package → Res) : Res :=
  match s.packages[p]? with
  | some k => f k
  | none => .fault .noSuchUnit

/-- `f` of package `p`, which has a processor; a fault where the platform has none (R9). -/
def withProcessor (s : State) (p : Nat) (f : Package → Res) : Res :=
  withPackage s p fun k => if k.hasCpu then f k else .fault .noSuchUnit

/-- R368(b), U16: a functional step `f` on the local or I/O unit of package `p`, refused if the package must be reset before any
functional use. What a processor does elsewhere is no such step, its own package marked or not. -/
def functional (s : State) (p : Nat) (f : Package → Res) : Res :=
  withPackage s p fun k => if k.needsReset then .refused .needsHardwareReset else f k

/-- The data a bus cycle returns to processor `p`. -/
def returnData (s : State) (p : Nat) (w : Word) : State := modifyCpu s p fun c => { c with data := w }

/-- The data a register read returns to processor `p`: the value, or where the sources give none a free value, drawn
afresh (U1, U4). -/
def returnRead (s : State) (p : Nat) (v : Option Word) : State :=
  match v with
  | some w => returnData s p w
  | none => returnData { s with fresh := s.fresh + 1 } p (Config.freeWord s.fresh)

/-- D10: a write to a reserved register changes nothing but this record of it. -/
def flagReserved (s : State) : State := { s with flagged := .reservedRegister :: s.flagged }

/-! ### Dispensing (R146) -/

/-- R146: decide whether to request the processor. -/
def dispense (u : LocalUnit) : LocalUnit :=
  if enabled u then
    match u.commit with
    | .none =>
      match dispensable u with
      | some _ => { u with commit := .internal, extInta := false, pint := .high }
      | none =>
        if u.extIntPending then { u with commit := .external, extInta := true, pint := .high }
        else { u with pint := .low }
    | _ => u
  else { u with pint := .z }

/-! ### Acceptance -/

/-- R141: accept a Fixed or Lowest Priority interrupt. -/
def acceptFixed (v : Byte) (trigger : TriggerMode) (lvl : Bool) (u : LocalUnit) : LocalUnit :=
  if v.toNat < 16 then u
  else
    dispense (match trigger with
      | .edge => { u with irr := setBit u.irr v.toNat true, tmr := setBit u.tmr v.toNat false }
      | .level =>
        if lvl then { u with irr := setBit u.irr v.toNat true, tmr := setBit u.tmr v.toNat true }
        else { u with irr := setBit u.irr v.toNat false })

/-- R148: accept an external interrupt. -/
def acceptExtInt (u : LocalUnit) : LocalUnit := dispense { u with extIntPending := true }

/-- R166: accept an NMI; PNMI follows it if the unit is enabled. -/
def acceptNmi (lvl : Bool) (u : LocalUnit) : LocalUnit :=
  { u with nmiOut := lvl, pnmi := if enabled u then driven lvl else u.pnmi }

/-! ### Taking an interrupt: the two cycles of the acknowledge -/

/-- First cycle (R320, R321, R322): an internal commitment freezes the IRR and chooses the vector, an external one leaves
the cycle to the 8259A, and with nothing committed the answer will be the spurious vector (D11). -/
def acknowledgeFirst (u : LocalUnit) : LocalUnit :=
  match u.commit with
  | .external => { u with intaPhase := .afterFirst }
  | .internal =>
    match dispensable u with
    | some v => { u with irrFrozen := true, intaVector := v, intaGenuine := true, intaPhase := .afterFirst }
    | none =>
      { u with irrFrozen := true, intaVector := svrVector u.svr, intaGenuine := false, intaPhase := .afterFirst }
  | .none => { u with irrFrozen := true, intaVector := svrVector u.svr, intaGenuine := false, intaPhase := .afterFirst }

/-- R143, R320: delivery of a genuine vector `v`: into service, and out of the IRR if it was accepted as an edge. -/
def serveVector (v : Byte) (u : LocalUnit) : LocalUnit :=
  { u with
    isr := setBit u.isr v.toNat true
    irr := if hasVector u.tmr v then u.irr else setBit u.irr v.toNat false }

/-- R320, R321: the end of an acknowledge: the unit takes PINT down and looks for the next request. -/
def endAcknowledge (u : LocalUnit) : LocalUnit :=
  dispense { u with irrFrozen := false, intaPhase := .idle, pint := .low, commit := .none }

/-- Second cycle (R320, R321). -/
def acknowledgeSecond (u : LocalUnit) : LocalUnit :=
  match u.commit with
  | .external => endAcknowledge { u with extIntPending := false, extInta := false }
  | _ => endAcknowledge (if u.intaGenuine then serveVector u.intaVector u else u)

/-- The vector the second cycle returns; `ext` is the 8259A's answer (R320, R321). -/
def acknowledgedVector (u : LocalUnit) (ext : Byte) : Byte :=
  match u.commit with
  | .external => ext
  | _ => u.intaVector

/-! ### Returning from an interrupt -/

/-- R150: the end of interrupt: the highest vector in service is ended, if there is one (D16). -/
def endOfInterrupt (u : LocalUnit) : LocalUnit :=
  dispense (match highest u.isr with
    | some w => { u with isr := setBit u.isr w.toNat false }
    | none => u)

/-! ### Resets of a local unit -/

/-- R79, R167: the reset state, with unit ID `unit`; the input pins keep their levels, their detectors wait. -/
def clearedLocal (unit : Byte) (u : LocalUnit) : LocalUnit :=
  { LocalUnit.cleared (idWord unit) with
    lint0 := ⟨u.lint0.level, .waiting⟩
    lint1 := ⟨u.lint1.level, .waiting⟩
    prst := true }

/-- R360: while RESET is sampled asserted, with `pins` on the address pins (R362). -/
def hardwareResetLocal (pins : Byte) (u : LocalUnit) : LocalUnit := { clearedLocal pins u with extInta := true }

/-- R361: a software reset keeps the unit ID and drives PRST until the deassert message. -/
def softwareResetLocal (u : LocalUnit) : LocalUnit := { clearedLocal (unitIdOf u.id) u with resetOut := true }

/-- R366: the unit drops PRST and ExtINTA. -/
def releasedLocal (u : LocalUnit) : LocalUnit := { u with prst := false, extInta := false, resetOut := false }

/-- R214: reset of an I/O unit; its input pins keep their levels. -/
def clearedIo (u : IoUnit) : IoUnit :=
  { IoUnit.cleared with pins := u.pins.map fun x => ⟨x.level, .waiting⟩ }

/-- The messages that a predicate on their source keeps (R360: a unit's undelivered messages are lost with its reset). -/
def keepMessages (s : State) (keep : Source → Bool) : State :=
  { s with
    icc :=
      { queue := s.icc.queue.filter fun m => keep m.source
        carried := s.icc.carried.filter fun m => keep m.source } }

/-- R167, R361: a Reset message with level 1 reaches the local unit of package `q`. -/
def resetByMessage (s : State) (q : Nat) : State :=
  keepMessages (modifyLocal s q softwareResetLocal) fun src => src != .local q

/-- R168, R366: the unit of package `q` drops PRST, if it was up, and its processor leaves reset when the pin falls. -/
def releaseByMessage (s : State) (q : Nat) : State :=
  modifyPackage s q fun k => if k.lu.prst then startedOnFall k { k with lu := releasedLocal k.lu } else k

/-! ### Sending -/

/-- R160: a message waits for the bus. -/
def sendMessage (s : State) (m : Message) : State :=
  { s with icc := { s.icc with queue := s.icc.queue ++ [m] } }

end Sys2Proof.Machine
end

