-- ==== Sys2Proof/Machine/Fdc.lean ====
section
/-!
DEFINITION. The floppy controller's perpendicular mode (file 43, R281 to R299): the command, the configuration of a data
transfer, the DUMPREG byte, the two resets, and the outputs R127 and R299 give as functions of the data rate.
-/

namespace Sys2Proof.Machine

/-- R283: the stored bits after the second byte `b` of the command; OW (bit 7) lets it change the drive bits, bit 6 is
ignored (U8). -/
def perpendicular (b : Byte) (pr : PerpBits) : PerpBits :=
  { d3    := if b.getLsbD 7 then b.getLsbD 5 else pr.d3
    d2    := if b.getLsbD 7 then b.getLsbD 4 else pr.d2
    d1    := if b.getLsbD 7 then b.getLsbD 3 else pr.d1
    d0    := if b.getLsbD 7 then b.getLsbD 2 else pr.d0
    gap   := b.getLsbD 1
    wgate := b.getLsbD 0 }

/-- The code of the perpendicular mode command (R281). -/
def perpendicularCode : Byte := 0x12#8

/-- R281: a byte of a command that is not in the sources (N51): no rule lets it change the stored bits (R76, R283, R293), and how
many bytes such a command has is open, so that whether this one ends it is a free value (log 33). -/
def otherCommandByte (s : State) : State :=
  { s with
    fdc := { s.fdc with phase := if Config.freeFdcDone s.fresh then .command else .other }
    fresh := s.fresh + 1 }

/-- R281: a byte is taken from the FIFO: as the first of a command, where 0x12 is the perpendicular mode command and any other
byte is of another command, or as a further byte of the command before it. -/
def fifoWrite (b : Byte) (s : State) : Res :=
  match s.fdc.phase with
  | .command =>
    if b = perpendicularCode then .next { s with fdc := { s.fdc with phase := .parameter } }
    else .next (otherCommandByte s)
  | .parameter => .next { s with fdc := { s.fdc with pr := perpendicular b s.fdc.pr, phase := .command } }
  | .other => .next (otherCommandByte s)

/-- R76: the stored bit of a drive. -/
def driveBit (pr : PerpBits) (drive : BitVec 2) : Bool :=
  match drive.toNat with
  | 0 => pr.d0
  | 1 => pr.d1
  | 2 => pr.d2
  | _ => pr.d3

/-- R285: the numbers of a row; with precompensation of `ns`. -/
def rowConfig (row : ModeRow) (forced : Bool) (ns : Nat) : TransferConfig :=
  match row with
  | .row00 => ⟨.row00, forced, ns, 22, 0, 24, 33⟩
  | .row01 => ⟨.row01, forced, ns, 22, 19, 24, 33⟩
  | .row10 => ⟨.row10, forced, ns, 22, 0, 24, 33⟩
  | .row11 => ⟨.row11, forced, ns, 41, 38, 43, 33⟩

/-- R284, R286: the configuration of a data transfer on `drive`; `ns` is the programmed precompensation. -/
def configure (pr : PerpBits) (drive : BitVec 2) (rate : DataRate) (ns : Nat) : TransferConfig :=
  match pr.gap, pr.wgate with
  | true, false => rowConfig .row10 false ns
  | false, true => rowConfig .row01 false ns
  | true, true => rowConfig .row11 false ns
  | false, false =>
    if driveBit pr drive then
      (if rate = .mbps1 then rowConfig .row11 true 0 else rowConfig .row01 true 0)
    else rowConfig .row00 false ns

/-- R284, R290: a READ, WRITE or FORMAT on `drive` computes its configuration; the three do so alike. One may also start while
the controller is inside a command, and uses the bits stored so far (DESIGN CHOICE, log 33). -/
def fdcTransfer (drive : BitVec 2) (s : State) : Res :=
  .next { s with
    fdc := { s.fdc with drive := drive, config := configure s.fdc.pr drive s.fdc.rate s.fdc.precomp } }

/-- R126, R292: the eighth DUMPREG result byte; `hi` stands in its bits 7 and 6. -/
def dumpregByte (hi : BitVec 2) (pr : PerpBits) : Byte :=
  hi ++ (BitVec.ofBool pr.d3 ++ (BitVec.ofBool pr.d2 ++ (BitVec.ofBool pr.d1 ++ (BitVec.ofBool pr.d0 ++
    (BitVec.ofBool pr.gap ++ BitVec.ofBool pr.wgate)))))

/-- R292: the byte is read; its bits 7 and 6 are free values (U17). The stored bits do not change. -/
def readDumpreg (s : State) : State :=
  { s with
    fdc := { s.fdc with result := dumpregByte (Config.freeDumpregHigh s.fresh) s.fdc.pr }
    fresh := s.fresh + 1 }

/-- R293: software reset. The controller then waits for a command (log 33). -/
def fdcSoftwareReset (s : State) : State :=
  { s with fdc := { s.fdc with pr := { s.fdc.pr with gap := false, wgate := false }, phase := .command } }

/-- R293: hardware reset. -/
def fdcHardwareReset (s : State) : State :=
  { s with fdc := { s.fdc with pr := ⟨false, false, false, false, false, false⟩, phase := .command } }

/-! ### Density outputs (R127) and the evaluation board's PLD (R299) -/

/-- The outputs DENSEL, DRATE1, DRATE0. -/
structure DensityOutputs where
  densel : Bool
  drate1 : Bool
  drate0 : Bool
  deriving DecidableEq, Repr

/-- R127: the pins at a data rate; `ps2` is PS/2 mode (IDENT = 0), otherwise AT mode. -/
def densityOutputs (rate : DataRate) (ps2 : Bool) : DensityOutputs :=
  match rate with
  | .mbps1 => ⟨!ps2, true, true⟩
  | .kbps500 => ⟨!ps2, false, false⟩
  | .kbps300 => ⟨ps2, false, true⟩
  | .kbps250 => ⟨ps2, true, false⟩

/-- R299: `CS_`, active low, of the address lines SA9 to SA3, AEN and ADDSEL. -/
def pldSelect (sa : BitVec 7) (aen addsel : Bool) : Bool :=
  !((!aen && sa == 0b1101110#7 && !addsel) || (!aen && sa == 0b1111110#7 && addsel))

/-- R299: `DRVDEN0`. -/
def pldDrvden0 (denout1 denout0 : Bool) (o : DensityOutputs) : Bool :=
  match denout1, denout0 with
  | false, false => o.densel
  | false, true => !o.densel
  | true, false => o.drate1
  | true, true => o.drate0

/-- R299: `DRVDEN1`. -/
def pldDrvden1 (denout1 denout0 : Bool) (o : DensityOutputs) : Bool :=
  match denout1, denout0 with
  | true, true => o.drate1
  | _, _ => o.drate0

end Sys2Proof.Machine
end

