-- ==== Sys2Proof/Machine/Scan.lean ====
section
/-!
DEFINITION. The boundary scan register (R260): its 137 cells, and what each captures (R252, R253).
-/

namespace Sys2Proof.Machine

/-- Cell types (R260): input only; output with tri-state; bi-directional; tri-state control. -/
inductive CellType where
  | i
  | t
  | b
  | c
  deriving DecidableEq, Repr

/-- What a control cell controls (R260). -/
inductive Controlled where
  | reserved
  | dp
  | data
  | addr
  | pint
  | pnmi
  | prst
  | rdy
  | mbo (k : Fin 4)
  deriving DecidableEq, Repr

/-- The signal of a cell (R260). `addr k` is the pin A(k+3), bit `k` of a latched ID (R362). -/
inductive Signal where
  | clkin
  | tmbase
  | iclk
  | dC
  | wR
  | mIO
  | ads
  | reset
  | bgt
  | dle
  | cs
  | mbi (k : Fin 4)
  | lintin (j : Lint)
  | intin (k : Fin 16)
  | dp (k : Fin 4)
  | data (k : Fin 32)
  | addr (k : Fin 8)
  | pint
  | pnmi
  | prst
  | extInta
  | rdy
  | mbo (k : Fin 4)
  | control (g : Controlled)
  | reserved
  deriving DecidableEq, Repr

/-- A cell of the scan path. -/
structure Cell where
  type   : CellType
  signal : Signal
  deriving DecidableEq, Repr

/-- R260: cells 1 to 23. -/
def cells1 : List Cell :=
  [⟨.i, .clkin⟩, ⟨.i, .tmbase⟩, ⟨.i, .iclk⟩, ⟨.i, .dC⟩,
   ⟨.i, .wR⟩, ⟨.i, .mIO⟩, ⟨.i, .ads⟩, ⟨.i, .reset⟩,
   ⟨.i, .bgt⟩, ⟨.i, .reserved⟩, ⟨.i, .reserved⟩, ⟨.i, .reserved⟩,
   ⟨.i, .dle⟩, ⟨.i, .cs⟩, ⟨.i, .reserved⟩, ⟨.i, .mbi 3⟩,
   ⟨.i, .mbi 2⟩, ⟨.i, .mbi 1⟩, ⟨.i, .mbi 0⟩, ⟨.i, .lintin .lint1⟩,
   ⟨.i, .lintin .lint0⟩, ⟨.t, .reserved⟩, ⟨.c, .control .reserved⟩]

/-- R260: cells 24 to 46. -/
def cells24 : List Cell :=
  [⟨.i, .intin 15⟩, ⟨.i, .intin 14⟩, ⟨.t, .reserved⟩, ⟨.c, .control .reserved⟩,
   ⟨.i, .intin 13⟩, ⟨.i, .intin 12⟩, ⟨.t, .reserved⟩, ⟨.c, .control .reserved⟩,
   ⟨.i, .intin 11⟩, ⟨.i, .intin 10⟩, ⟨.t, .reserved⟩, ⟨.c, .control .reserved⟩,
   ⟨.i, .intin 9⟩, ⟨.i, .intin 8⟩, ⟨.t, .reserved⟩, ⟨.c, .control .reserved⟩,
   ⟨.i, .intin 7⟩, ⟨.i, .intin 6⟩, ⟨.t, .reserved⟩, ⟨.c, .control .reserved⟩,
   ⟨.i, .intin 5⟩, ⟨.i, .intin 4⟩, ⟨.t, .reserved⟩]

/-- R260: cells 47 to 69. -/
def cells47 : List Cell :=
  [⟨.c, .control .reserved⟩, ⟨.i, .intin 3⟩, ⟨.i, .intin 2⟩, ⟨.t, .reserved⟩,
   ⟨.c, .control .reserved⟩, ⟨.i, .intin 1⟩, ⟨.i, .intin 0⟩, ⟨.i, .reserved⟩,
   ⟨.b, .dp 3⟩, ⟨.c, .control .dp⟩, ⟨.b, .dp 2⟩, ⟨.b, .dp 1⟩,
   ⟨.b, .dp 0⟩, ⟨.t, .reserved⟩, ⟨.c, .control .reserved⟩, ⟨.b, .data 31⟩,
   ⟨.c, .control .data⟩, ⟨.b, .data 30⟩, ⟨.b, .data 29⟩, ⟨.b, .data 28⟩,
   ⟨.t, .reserved⟩, ⟨.c, .control .reserved⟩, ⟨.b, .data 27⟩]

/-- R260: cells 70 to 92. -/
def cells70 : List Cell :=
  [⟨.b, .data 26⟩, ⟨.t, .reserved⟩, ⟨.c, .control .reserved⟩, ⟨.b, .data 25⟩,
   ⟨.b, .data 24⟩, ⟨.b, .data 23⟩, ⟨.t, .reserved⟩, ⟨.c, .control .reserved⟩,
   ⟨.b, .data 22⟩, ⟨.b, .data 21⟩, ⟨.b, .data 20⟩, ⟨.b, .data 19⟩,
   ⟨.b, .data 18⟩, ⟨.b, .data 17⟩, ⟨.b, .data 16⟩, ⟨.b, .data 15⟩,
   ⟨.b, .data 14⟩, ⟨.b, .data 13⟩, ⟨.b, .data 12⟩, ⟨.b, .data 11⟩,
   ⟨.t, .reserved⟩, ⟨.c, .control .reserved⟩, ⟨.b, .data 10⟩]

/-- R260: cells 93 to 115. -/
def cells93 : List Cell :=
  [⟨.b, .data 9⟩, ⟨.t, .reserved⟩, ⟨.c, .control .reserved⟩, ⟨.b, .data 8⟩,
   ⟨.b, .data 7⟩, ⟨.b, .data 6⟩, ⟨.b, .data 5⟩, ⟨.b, .data 4⟩,
   ⟨.b, .data 3⟩, ⟨.b, .data 2⟩, ⟨.b, .data 1⟩, ⟨.b, .data 0⟩,
   ⟨.i, .reserved⟩, ⟨.b, .reserved⟩, ⟨.c, .control .addr⟩, ⟨.b, .addr 7⟩,
   ⟨.b, .addr 6⟩, ⟨.b, .addr 5⟩, ⟨.b, .addr 4⟩, ⟨.b, .addr 3⟩,
   ⟨.b, .addr 2⟩, ⟨.b, .addr 1⟩, ⟨.b, .addr 0⟩]

/-- R260: cells 116 to 137. -/
def cells116 : List Cell :=
  [⟨.t, .reserved⟩, ⟨.c, .control .reserved⟩, ⟨.t, .pint⟩, ⟨.c, .control .pint⟩,
   ⟨.t, .pnmi⟩, ⟨.c, .control .pnmi⟩, ⟨.t, .prst⟩, ⟨.c, .control .prst⟩,
   ⟨.t, .extInta⟩, ⟨.c, .control .reserved⟩, ⟨.t, .reserved⟩, ⟨.c, .control .reserved⟩,
   ⟨.t, .rdy⟩, ⟨.c, .control .rdy⟩, ⟨.t, .mbo 3⟩, ⟨.c, .control (.mbo 3)⟩,
   ⟨.t, .mbo 2⟩, ⟨.c, .control (.mbo 2)⟩, ⟨.t, .mbo 1⟩, ⟨.c, .control (.mbo 1)⟩,
   ⟨.t, .mbo 0⟩, ⟨.c, .control (.mbo 0)⟩]

/-- R260: the cells in order from `tdi` (cell 1 first). -/
def scanCells : List Cell := cells1 ++ cells24 ++ cells47 ++ cells70 ++ cells93 ++ cells116

/-! ### Pins under extest (R245, R252) -/

/-- The control cell of an output or a bi-directional signal (R260). A reserved cell gets none, cell 106 included, which cell 107 is
named to control: what its pin drives is not stated (U19; DESIGN CHOICE, log 31). -/
def controlCell (x : Signal) : Option Nat :=
  match x with
  | .dp _ => some 56
  | .data _ => some 63
  | .addr _ => some 107
  | .pint => some 119
  | .pnmi => some 121
  | .prst => some 123
  | .extInta => some 125
  | .rdy => some 129
  | .mbo k => some (137 - 2 * k.val)
  | _ => none

/-- Under extest the scan path drives the pin of the signal `x` as an output (R252). -/
def scanOutput (t : Tap) (x : Signal) : Bool :=
  match controlCell x with
  | some c => scanDriven t && t.bsrLatch.getLsbD (c - 1) == Config.controlEnables
  | none => false

/-- The level package `k` drives on the pin of the cell at place `c` (from 0) with signal `x` (R53, R245, R252): under extest the
latched bit of the cell, or `z` where its control cell does not enable it; else what the part itself drives. `none` where
the model gives no level: inputs; in normal operation the address pins, RDY, MBO and the data pins (a bus cycle is one operation
here, R80); and the pin of a reserved output or bi-directional cell, under extest too (U19: not stated; DESIGN CHOICE, log 31). -/
def pinLevel (k : Package) (c : Nat) (x : Signal) : Option PinLevel :=
  match x with
  | .pint => some (pinPint k)
  | .pnmi => some (pinPnmi k)
  | .prst => some (pinPrst k)
  | .extInta => some (pinExtInta k)
  | _ =>
    match controlCell x with
    | some d => if scanDriven k.tap then some (scanDrive k.tap (c + 1) d) else none
    | none => none

/-! ### Capture -/

/-- What a cell at place `c` (from 0) captures (R252, R253): an input cell, or a bi-directional cell that is an input, the level at
its pin; an output under sample/preload what the 82489DX drives (a tri-stated output reads low). Where the sources are
silent (reserved cells, control cells, RDY, MBO, and under extest the cells of outputs) it is a free value, `free` (U19,
log 29). -/
def captureCell (k : Package) (sample free : Bool) (c : Nat) (x : Cell) : Bool :=
  match x.signal with
  | .reset => k.resetPin
  | .lintin .lint0 => k.lu.lint0.level
  | .lintin .lint1 => k.lu.lint1.level
  | .intin i => (k.iou.pins.get i).level
  | .addr i => if scanOutput k.tap x.signal then free else k.addrPins.getLsbD i.val
  | .data _ => if scanOutput k.tap x.signal then free else k.extPins.getLsbD c
  | .dp _ => if scanOutput k.tap x.signal then free else k.extPins.getLsbD c
  | .pint => if sample then k.lu.pint == .high else free
  | .pnmi => if sample then k.lu.pnmi == .high else free
  | .prst => if sample then k.lu.prst else free
  | .extInta => if sample then k.lu.extInta else free
  | .rdy => free
  | .mbo _ => free
  | .control _ => free
  | .reserved => free
  | _ => k.extPins.getLsbD c

/-- The captured values of a list of cells, the first at place `c`, as bits from `c` up. -/
def captureFrom (k : Package) (sample : Bool) (free : ScanPath) (c : Nat) (l : List Cell) : ScanPath :=
  match l with
  | [] => 0#137
  | x :: r => setBit (captureFrom k sample free (c + 1) r) c (captureCell k sample (free.getLsbD c) c x)

/-- Capture-DR of the boundary scan register. -/
def captureScan (k : Package) (sample : Bool) (free : ScanPath) : ScanPath := captureFrom k sample free 0 scanCells

/-- Whether the level at the pin of a cell is held by `Package.extPins` and by no other field. -/
def heldByExtPins (x : Cell) : Bool :=
  match x.signal with
  | .clkin | .tmbase | .iclk | .dC | .wR | .mIO | .ads | .bgt | .dle | .cs => true
  | .mbi _ | .dp _ | .data _ => true
  | _ => false

/-- The pin of the cell at place `c` takes a level, where no other field holds it. -/
def setOtherPin (c : Fin 137) (lvl : Bool) (k : Package) : Package :=
  match scanCells[c.val]? with
  | some x => if heldByExtPins x then { k with extPins := setBit k.extPins c.val lvl } else k
  | none => k

end Sys2Proof.Machine
end

