-- ==== Sys2Proof/Machine/Tap.lean ====
section
/-!
DEFINITION. The test access port (R230 to R256): the controller, its three events, and the scans a tester makes of them.
-/

namespace Sys2Proof.Machine

/-! ### The controller (R232) -/

/-- The state after a rising edge of `tck`. -/
def tapNext (t : TapState) (tms : Bool) : TapState :=
  match t, tms with
  | .testLogicReset, false => .runTestIdle
  | .testLogicReset, true => .testLogicReset
  | .runTestIdle, false => .runTestIdle
  | .runTestIdle, true => .selectDr
  | .selectDr, false => .captureDr
  | .selectDr, true => .selectIr
  | .captureDr, false => .shiftDr
  | .captureDr, true => .exit1Dr
  | .shiftDr, false => .shiftDr
  | .shiftDr, true => .exit1Dr
  | .exit1Dr, false => .pauseDr
  | .exit1Dr, true => .updateDr
  | .pauseDr, false => .pauseDr
  | .pauseDr, true => .exit2Dr
  | .exit2Dr, false => .shiftDr
  | .exit2Dr, true => .updateDr
  | .updateDr, false => .runTestIdle
  | .updateDr, true => .selectDr
  | .selectIr, false => .captureIr
  | .selectIr, true => .testLogicReset
  | .captureIr, false => .shiftIr
  | .captureIr, true => .exit1Ir
  | .shiftIr, false => .shiftIr
  | .shiftIr, true => .exit1Ir
  | .exit1Ir, false => .pauseIr
  | .exit1Ir, true => .updateIr
  | .pauseIr, false => .pauseIr
  | .pauseIr, true => .exit2Ir
  | .exit2Ir, false => .shiftIr
  | .exit2Ir, true => .updateIr
  | .updateIr, false => .runTestIdle
  | .updateIr, true => .selectDr

/-! ### Instructions (R120) -/

/-- The register an instruction connects between `tdi` and `tdo` (R251 to R254); a code without a row connects none. -/
inductive Selected where
  | boundary (sample : Bool)
  | device
  | bypass
  | nothing
  deriving DecidableEq, Repr

/-- R251 to R254. -/
def selected (ir : BitVec 4) : Selected :=
  match ir.toNat with
  | 0b0000 => .boundary false
  | 0b0001 => .boundary true
  | 0b0010 => .device
  | 0b1111 => .bypass
  | _ => .nothing

/-- An opcode with an effect in the sources (R256: the others are refused, U10). -/
def listedOpcode (ir : BitVec 4) : Bool := selected ir != .nothing

/-- What an undriven `tms` or `tdi` reads (R75). -/
def pulledUp (x : Option Bool) : Bool := x.getD true

/-! ### Events (R231) -/

/-- R237: the edge that leaves Capture-DR; it begins a new record of `tdo`. -/
def captureDr (k : Package) (fresh : Nat) : Tap :=
  let t := { k.tap with scanOut := [] }
  match selected t.ir with
  | .boundary sample => { t with bsrShift := captureScan k sample (Config.freeScanPath fresh) }
  | .device => { t with didShift := Config.deviceId }
  | .bypass => { t with bypass := false }
  | .nothing => t

/-- R238: an edge in Shift-DR. -/
def shiftDr (tdi : Bool) (t : Tap) : Tap :=
  match selected t.ir with
  | .boundary _ =>
    { t with
      bsrShift := (t.bsrShift <<< 1) ||| (BitVec.ofBool tdi).setWidth 137
      scanOut := t.scanOut ++ [t.bsrShift.getLsbD 136] }
  | .device =>
    { t with
      didShift := BitVec.ofBool tdi ++ t.didShift.extractLsb' 1 31
      scanOut := t.scanOut ++ [t.didShift.getLsbD 0] }
  | .bypass => { t with bypass := tdi, scanOut := t.scanOut ++ [t.bypass] }
  | .nothing => t

/-- R240: the edge that leaves Capture-IR; the upper two stages are free (U9). -/
def captureIr (fresh : Nat) (t : Tap) : Tap :=
  { t with irShift := Config.freeCaptureIr fresh ++ 0b01#2, scanOut := [] }

/-- R241: an edge in Shift-IR. -/
def shiftIr (tdi : Bool) (t : Tap) : Tap :=
  { t with
    irShift := BitVec.ofBool tdi ++ t.irShift.extractLsb' 1 3
    scanOut := t.scanOut ++ [t.irShift.getLsbD 0] }

/-- What a rising edge does in the state it leaves. -/
def actOnRise (k : Package) (fresh : Nat) (tdi : Bool) : Tap :=
  match k.tap.state with
  | .captureDr => captureDr k fresh
  | .shiftDr => shiftDr tdi k.tap
  | .captureIr => captureIr fresh k.tap
  | .shiftIr => shiftIr tdi k.tap
  | _ => k.tap

/-- R232, R233(c): the state moves; in Test-Logic-Reset the instruction is idcode. -/
def moveTo (x : TapState) (t : Tap) : Tap :=
  if x = .testLogicReset then { t with state := x, ir := idcodeOpcode } else { t with state := x }

/-- Whether a rising edge in this state draws a free value. -/
def drawsFree (x : TapState) : Bool := x == .captureDr || x == .captureIr

/-- `s` with the TAP of package `k` replaced by `f` of the package: where extest begins or ends, or its latched bits change, the
pins may change with it, and a processor whose RESET input falls so starts (R24, R245, log 31). -/
def modifyTap (s : State) (k : Nat) (f : Package → Tap) : State :=
  modifyPackage s k fun pk => startedOnFall pk { pk with tap := f pk }

/-- `Rise(tms, tdi)`. -/
def tapRise (k : Nat) (tms tdi : Option Bool) (s : State) : Res :=
  withPackage s k fun pk =>
    .next (modifyTap { s with fresh := if drawsFree pk.tap.state then s.fresh + 1 else s.fresh } k fun pk =>
      moveTo (tapNext pk.tap.state (pulledUp tms)) (actOnRise pk s.fresh (pulledUp tdi)))

/-- R242, R252, R256: Update-IR latches the instruction; extest marks the package (R368(b)). -/
def updateIr (k : Nat) (pk : Package) (s : State) : Res :=
  if listedOpcode pk.tap.irShift then
    .next (modifyTap
      (modifyPackage s k fun pk => { pk with needsReset := pk.needsReset || pk.tap.irShift == extestOpcode }) k
      fun pk => { pk.tap with ir := pk.tap.irShift })
  else .refused .jtagOpcode

/-- R239: Update-DR latches the boundary scan register, if it is selected. -/
def updateDr (t : Tap) : Tap :=
  match selected t.ir with
  | .boundary _ => { t with bsrLatch := t.bsrShift }
  | _ => t

/-- `Fall`. -/
def tapFall (k : Nat) (s : State) : Res :=
  withPackage s k fun pk =>
    match pk.tap.state with
    | .updateDr => .next (modifyTap s k fun pk => updateDr pk.tap)
    | .updateIr => updateIr k pk s
    | _ => .next s

/-- `TrstLow` (R233(a)). -/
def tapTrst (k : Nat) (s : State) : Res :=
  withPackage s k fun _ => .next (modifyTap s k fun pk => moveTo .testLogicReset pk.tap)

/-- An event at the port of package `k`. -/
def tapEvent (k : Nat) (e : TapEvent) (s : State) : Res :=
  match e with
  | .rise tms tdi => tapRise k tms tdi s
  | .fall => tapFall k s
  | .trstLow => tapTrst k s

/-- R238, R241: `tdo`; outside the two shift states it is tri-stated (log 29). -/
def tdo (t : Tap) : PinLevel :=
  match t.state with
  | .shiftIr => driven (t.irShift.getLsbD 0)
  | .shiftDr =>
    match selected t.ir with
    | .boundary _ => driven (t.bsrShift.getLsbD 136)
    | .device => driven (t.didShift.getLsbD 0)
    | .bypass => driven t.bypass
    | .nothing => .z
  | _ => .z

/-! ### Scans (log 30) -/

/-- One whole clock of `tck`: a rising edge, then a falling edge. -/
def tapClock (k : Nat) (tms tdi : Bool) (s : State) : Res :=
  andThen (tapRise k (some tms) (some tdi) s) (tapFall k)

/-- Clocks with the listed values of `tms` and `tdi`. -/
def tapClocks (k : Nat) (l : List (Bool × Bool)) (s : State) : Res :=
  match l with
  | [] => .next s
  | x :: r => andThen (tapClock k x.1 x.2 s) (tapClocks k r)

/-- The values of `tms` that lead from a state to Select-IR-Scan by R232. -/
def pathToSelectIr (t : TapState) : List Bool :=
  match t with
  | .testLogicReset => [false, true, true]
  | .runTestIdle => [true, true]
  | .selectDr => [true]
  | .captureDr => [true, true, true, true]
  | .shiftDr => [true, true, true, true]
  | .exit1Dr => [true, true, true]
  | .pauseDr => [true, true, true, true]
  | .exit2Dr => [true, true, true]
  | .updateDr => [true, true]
  | .selectIr => []
  | .captureIr => [true, true, true, true]
  | .shiftIr => [true, true, true, true]
  | .exit1Ir => [true, true, true]
  | .pauseIr => [true, true, true, true]
  | .exit2Ir => [true, true, true]
  | .updateIr => [true, true]

/-- `tms` with `tdi` at 1. -/
def moves (l : List Bool) : List (Bool × Bool) := l.map fun b => (b, true)

/-- The shift of a stream: `tms` is 1 at the last bit only, on which the controller leaves the shift state. -/
def shifts (l : List Bool) : List (Bool × Bool) :=
  match l with
  | [] => []
  | [b] => [(true, b)]
  | b :: r => (false, b) :: shifts r

/-- R122: the bits of an opcode in the order they are shifted, least significant first. -/
def opcodeBits (op : BitVec 4) : List Bool := [op.getLsbD 0, op.getLsbD 1, op.getLsbD 2, op.getLsbD 3]

/-- From Select-IR-Scan: an instruction scan that ends in Run-Test/Idle. -/
def instructionScan (op : BitVec 4) : List (Bool × Bool) :=
  moves [false, false] ++ shifts (opcodeBits op) ++ moves [true, false]

/-- From Run-Test/Idle: a data scan of a stream that ends in Run-Test/Idle. -/
def dataScan (l : List Bool) : List (Bool × Bool) :=
  moves [true, false, false] ++ shifts l ++ moves [true, false]

/-- R120: the instruction `op` is loaded into the TAP of package `k`, and then, if a stream is given, it is shifted
through the register the instruction selects. -/
def loadAndScan (k : Nat) (op : BitVec 4) (tdi : List Bool) (s : State) : Res :=
  withPackage s k fun pk =>
    andThen (tapClocks k (moves (pathToSelectIr pk.tap.state)) s) fun s =>
      andThen (tapClocks k (instructionScan op) s) fun s =>
        if tdi = [] then .next s else tapClocks k (dataScan tdi) s

end Sys2Proof.Machine
end

