-- ==== Sys2Proof/Machine/DeviceRows.lean ====
section
/-!
DEFINITION. The meanings of the JTAG rows (R251 to R256) and of the two rows of the floppy controller (R283, R292).
-/

namespace Sys2Proof.Machine

/-- JTAG.EXTEST: R252. -/
def execJtagExtest (k : Nat) (tdi : List Bool) (s : State) : Res := loadAndScan k 0b0000#4 tdi s

/-- JTAG.SAMPLE_PRELOAD: R253. -/
def execJtagSamplePreload (k : Nat) (tdi : List Bool) (s : State) : Res := loadAndScan k 0b0001#4 tdi s

/-- JTAG.IDCODE: R254. -/
def execJtagIdcode (k : Nat) (tdi : List Bool) (s : State) : Res := loadAndScan k 0b0010#4 tdi s

/-- JTAG.RESERVED_1001: R256, U10. -/
def execJtagReserved1001 (_ : Nat) (_ : List Bool) (_ : State) : Res := .refused .jtagOpcode

/-- JTAG.BYPASS: R251. -/
def execJtagBypass (k : Nat) (tdi : List Bool) (s : State) : Res := loadAndScan k 0b1111#4 tdi s

/-- JTAG.unlisted_0011: R256, U10. -/
def execJtagUnlisted0011 (_ : Nat) (_ : List Bool) (_ : State) : Res := .refused .jtagOpcode

/-- JTAG.unlisted_0100: R256, U10. -/
def execJtagUnlisted0100 (_ : Nat) (_ : List Bool) (_ : State) : Res := .refused .jtagOpcode

/-- JTAG.unlisted_0101: R256, U10. -/
def execJtagUnlisted0101 (_ : Nat) (_ : List Bool) (_ : State) : Res := .refused .jtagOpcode

/-- JTAG.unlisted_0110: R256, U10. -/
def execJtagUnlisted0110 (_ : Nat) (_ : List Bool) (_ : State) : Res := .refused .jtagOpcode

/-- JTAG.unlisted_0111: R256, U10. -/
def execJtagUnlisted0111 (_ : Nat) (_ : List Bool) (_ : State) : Res := .refused .jtagOpcode

/-- JTAG.unlisted_1000: R256, U10. -/
def execJtagUnlisted1000 (_ : Nat) (_ : List Bool) (_ : State) : Res := .refused .jtagOpcode

/-- JTAG.unlisted_1010: R256, U10. -/
def execJtagUnlisted1010 (_ : Nat) (_ : List Bool) (_ : State) : Res := .refused .jtagOpcode

/-- JTAG.unlisted_1011: R256, U10. -/
def execJtagUnlisted1011 (_ : Nat) (_ : List Bool) (_ : State) : Res := .refused .jtagOpcode

/-- JTAG.unlisted_1100: R256, U10. -/
def execJtagUnlisted1100 (_ : Nat) (_ : List Bool) (_ : State) : Res := .refused .jtagOpcode

/-- JTAG.unlisted_1101: R256, U10. -/
def execJtagUnlisted1101 (_ : Nat) (_ : List Bool) (_ : State) : Res := .refused .jtagOpcode

/-- JTAG.unlisted_1110: R256, U10. -/
def execJtagUnlisted1110 (_ : Nat) (_ : List Bool) (_ : State) : Res := .refused .jtagOpcode

/-- FDC.PERPENDICULAR_MODE: the two bytes of the command are written to the FIFO (R281, R283). -/
def execFdcPerpendicularMode (pr : Byte) (s : State) : Res := andThen (fifoWrite perpendicularCode s) (fifoWrite pr)

/-- FDC.DUMPREG_RESULT8: R292. -/
def execFdcDumpregResult8 (s : State) : Res := .next (readDumpreg s)

end Sys2Proof.Machine
end

