-- ==== Sys2Proof/WellFormed.lean ====
section
/-!
DEFINITION. Which terms of `Instr` stand for an operation that has an encoding on a platform: the platform has the I/O unit
(R9), and the two rows that stand for "every other" selector or index hold one that no other row claims (R60, R61).
-/

namespace Sys2Proof

/-- The platform has an I/O unit n, counted from 0 (R9: `n < NIOU`). -/
abbrev unitHasAddress (pf : Platform) (n : Nat) : Prop := n < pf.ious.length

/-- A direct selector of an I/O unit that names no register (R60). -/
abbrev directSelectorReserved (sel : BitVec 6) : Prop := 2 ≤ sel.toNat

/-- An indirect index of an I/O unit that names no register (R61, R113). -/
abbrev indexReserved (idx : Byte) : Prop := (2 ≤ idx.toNat ∧ idx.toNat < 0x10) ∨ 0x30 ≤ idx.toNat

/-- The checks an operation must pass to be encoded. -/
def wellFormed (pf : Platform) (i : Instr) : Bool :=
  match i with
  | .luId _ _ => true
  | .luVersion _ _ => true
  | .luTpr _ _ => true
  | .luEoi _ _ => true
  | .luRemote _ _ => true
  | .luLdr _ _ => true
  | .luDfr _ _ => true
  | .luSvr _ _ => true
  | .luIsr _ _ _ => true
  | .luTmr _ _ _ => true
  | .luIrr _ _ _ => true
  | .luIcrLow _ _ => true
  | .luIcrHigh _ _ => true
  | .luLvtTimer _ _ => true
  | .luLvtLint0 _ _ => true
  | .luLvtLint1 _ _ => true
  | .luTimerInit _ _ => true
  | .luTimerCur _ _ => true
  | .luTimerDiv _ _ => true
  | .luReserved000000 _ _ => true
  | .luReserved000001 _ _ => true
  | .luReserved000100 _ _ => true
  | .luReserved000101 _ _ => true
  | .luReserved000110 _ _ => true
  | .luReserved000111 _ _ => true
  | .luReserved001001 _ _ => true
  | .luReserved001010 _ _ => true
  | .luReserved101000 _ _ => true
  | .luReserved101001 _ _ => true
  | .luReserved101010 _ _ => true
  | .luReserved101011 _ _ => true
  | .luReserved101100 _ _ => true
  | .luReserved101101 _ _ => true
  | .luReserved101110 _ _ => true
  | .luReserved101111 _ _ => true
  | .luReserved110011 _ _ => true
  | .luReserved110100 _ _ => true
  | .luReserved110111 _ _ => true
  | .luReserved111010 _ _ => true
  | .luReserved111011 _ _ => true
  | .luReserved111100 _ _ => true
  | .luReserved111101 _ _ => true
  | .luReserved111111 _ _ => true
  | .ioSelect _ n _ => decide (unitHasAddress pf n)
  | .ioWindow _ n _ => decide (unitHasAddress pf n)
  | .ioReservedDirect _ n sel _ => decide (unitHasAddress pf n) && decide (directSelectorReserved sel)
  | .ioIdxId _ n _ => decide (unitHasAddress pf n)
  | .ioIdxVersion _ n _ => decide (unitHasAddress pf n)
  | .ioIdxRtLow0To7 _ n _ _ => decide (unitHasAddress pf n)
  | .ioIdxRtHigh0To7 _ n _ _ => decide (unitHasAddress pf n)
  | .ioIdxRtLow8To15 _ n _ _ => decide (unitHasAddress pf n)
  | .ioIdxRtHigh8To15 _ n _ _ => decide (unitHasAddress pf n)
  | .ioIdxReserved _ n idx _ => decide (unitHasAddress pf n) && decide (indexReserved idx)
  | .msgFixed _ _ => true
  | .msgLowestPriority _ _ => true
  | .msgReserved010 _ _ => true
  | .msgRemoteRead _ _ => true
  | .msgNmi _ _ => true
  | .msgReset _ _ => true
  | .msgReserved110 _ _ => true
  | .msgExtint _ _ => true
  | .jtagExtest _ _ => true
  | .jtagSamplePreload _ _ => true
  | .jtagIdcode _ _ => true
  | .jtagReserved1001 _ _ => true
  | .jtagBypass _ _ => true
  | .jtagUnlisted0011 _ _ => true
  | .jtagUnlisted0100 _ _ => true
  | .jtagUnlisted0101 _ _ => true
  | .jtagUnlisted0110 _ _ => true
  | .jtagUnlisted0111 _ _ => true
  | .jtagUnlisted1000 _ _ => true
  | .jtagUnlisted1010 _ _ => true
  | .jtagUnlisted1011 _ _ => true
  | .jtagUnlisted1100 _ _ => true
  | .jtagUnlisted1101 _ _ => true
  | .jtagUnlisted1110 _ _ => true
  | .fdcPerpendicularMode _ => true
  | .fdcDumpregResult8 => true

/-- `i` passes every check. -/
abbrev WellFormed (pf : Platform) (i : Instr) : Prop := wellFormed pf i = true

end Sys2Proof
end

