-- ==== Sys2Proof/Decode.lean ====
section
/-!
DEFINITION. From the bits of spec/opcode_table.json to an operation, and back. `decode` is total and rejects by name;
`encode` writes the cycle of an operation from the same tables (R30, R48, R112, R113, R120, R125).
-/

namespace Sys2Proof

/-- Why a cycle stands for no row of the table. -/
inductive DecodeError where
  /-- A bus cycle inside an 82489DX page that is not an aligned 32-bit access (R83, U3). -/
  | partialOrOffsetAccess
  /-- A cycle at an address outside every 82489DX page (R100 "not an 82489DX access"). -/
  | outsideDevices
  /-- A command word with a bit set that no field of the Interrupt Command Register covers (R48). -/
  | reservedCommandBits
  /-- More than 8 bits at the index port (R113), more than 4 at the JTAG instruction register (R120), or more than the two bytes of
  R125 at the data FIFO. -/
  | tooManyBits
  /-- An indirect access to an I/O unit that the platform has not (R9). -/
  | unitWithoutPage
  /-- A first byte at the data FIFO that is not 0x12 (R281: "tested against the other commands"). -/
  | otherFloppyCommand
  deriving DecidableEq, Repr

/-! ### Addresses (R81, R82, R83, R112) -/

/-- What an address selects. -/
inductive Target where
  | localUnit (sel : BitVec 6)
  | ioUnit (n : Nat) (sel : BitVec 6)
  | outside
  deriving DecidableEq, Repr

/-- R112: bits 9:4 of an address. -/
def selectorOf (addr : Word) : BitVec 6 := addr.extractLsb' 4 6

/-- R83: only the access at offset `sel * 16` is described. -/
def aligned (addr : Word) : Bool := addr.extractLsb' 0 4 == 0#4

/-- The 1 Kbyte boundary an address lies at (R81): bits 31:10. -/
def locationOf (sp : Space) (addr : Word) : Location := ⟨sp, addr.extractLsb' 10 22⟩

/-- R100, R101: full decode of bits 31:10 against `LU_BASE` and then every `IOU_BASE(n)`. -/
def addressTarget (pf : Platform) (sp : Space) (addr : Word) : Target :=
  if locationOf sp addr = pf.lu then .localUnit (selectorOf addr)
  else
    match pf.ious.findIdx? (fun l => l == locationOf sp addr) with
    | some n => .ioUnit n (selectorOf addr)
    | none => .outside

/-- R112: the address of the register of selector `sel` in the page at `l`. -/
def registerAddress (l : Location) (sel : BitVec 6) : Word := l.page ++ (sel ++ 0#4)

/-- `IOU_BASE(n)`; for a unit the platform has not, which no well-formed operation names, of no account. -/
def ioLocation (pf : Platform) (n : Nat) : Location := pf.ious.getD n pf.lu

/-- The port of a processor's cycle in a space. -/
def spacePort (sp : Space) : Port :=
  match sp with
  | .memory => .bus
  | .io => .ioSpace

/-! ### The selector table of a local unit (R30, R47) -/

/-- The row of a local unit selector. -/
def localInstr (sel : BitVec 6) (p : Nat) (a : Access) : Instr :=
  match sel.toNat with
  | 0 => .luReserved000000 p a
  | 1 => .luReserved000001 p a
  | 2 => .luId p a
  | 3 => .luVersion p a
  | 4 => .luReserved000100 p a
  | 5 => .luReserved000101 p a
  | 6 => .luReserved000110 p a
  | 7 => .luReserved000111 p a
  | 8 => .luTpr p a
  | 9 => .luReserved001001 p a
  | 10 => .luReserved001010 p a
  | 11 => .luEoi p a
  | 12 => .luRemote p a
  | 13 => .luLdr p a
  | 14 => .luDfr p a
  | 15 => .luSvr p a
  | 16 => .luIsr p 0 a
  | 17 => .luIsr p 1 a
  | 18 => .luIsr p 2 a
  | 19 => .luIsr p 3 a
  | 20 => .luIsr p 4 a
  | 21 => .luIsr p 5 a
  | 22 => .luIsr p 6 a
  | 23 => .luIsr p 7 a
  | 24 => .luTmr p 0 a
  | 25 => .luTmr p 1 a
  | 26 => .luTmr p 2 a
  | 27 => .luTmr p 3 a
  | 28 => .luTmr p 4 a
  | 29 => .luTmr p 5 a
  | 30 => .luTmr p 6 a
  | 31 => .luTmr p 7 a
  | 32 => .luIrr p 0 a
  | 33 => .luIrr p 1 a
  | 34 => .luIrr p 2 a
  | 35 => .luIrr p 3 a
  | 36 => .luIrr p 4 a
  | 37 => .luIrr p 5 a
  | 38 => .luIrr p 6 a
  | 39 => .luIrr p 7 a
  | 40 => .luReserved101000 p a
  | 41 => .luReserved101001 p a
  | 42 => .luReserved101010 p a
  | 43 => .luReserved101011 p a
  | 44 => .luReserved101100 p a
  | 45 => .luReserved101101 p a
  | 46 => .luReserved101110 p a
  | 47 => .luReserved101111 p a
  | 48 => .luIcrLow p a
  | 49 => .luIcrHigh p a
  | 50 => .luLvtTimer p a
  | 51 => .luReserved110011 p a
  | 52 => .luReserved110100 p a
  | 53 => .luLvtLint0 p a
  | 54 => .luLvtLint1 p a
  | 55 => .luReserved110111 p a
  | 56 => .luTimerInit p a
  | 57 => .luTimerCur p a
  | 58 => .luReserved111010 p a
  | 59 => .luReserved111011 p a
  | 60 => .luReserved111100 p a
  | 61 => .luReserved111101 p a
  | 62 => .luTimerDiv p a
  | _ => .luReserved111111 p a

/-- The row of a direct selector of an I/O unit (R60). -/
def ioInstr (sel : BitVec 6) (p n : Nat) (a : Access) : Instr :=
  match sel.toNat with
  | 0 => .ioSelect p n a
  | 1 => .ioWindow p n a
  | _ => .ioReservedDirect p n sel a

/-! ### Indirect indices of an I/O unit (R61, R113) -/

/-- The row of an indirect index. -/
def indexInstr (idx : Byte) (p n : Nat) (a : Access) : Instr :=
  let k : BitVec 3 := idx.extractLsb' 1 3
  if idx == 0#8 then .ioIdxId p n a
  else if idx == 1#8 then .ioIdxVersion p n a
  else if idx.extractLsb' 4 4 == 1#4 then
    if idx.getLsbD 0 then .ioIdxRtHigh0To7 p n k a else .ioIdxRtLow0To7 p n k a
  else if idx.extractLsb' 4 4 == 2#4 then
    if idx.getLsbD 0 then .ioIdxRtHigh8To15 p n k a else .ioIdxRtLow8To15 p n k a
  else .ioIdxReserved p n idx a

/-- R113: `high` is the upper half of the index (1 for entries 0..7, 2 for 8..15), `half` 1 for the high word. -/
def rtIndex (high : BitVec 4) (k : BitVec 3) (half : BitVec 1) : Byte := (high ++ (k ++ half)).setWidth 8

/-! ### The Interrupt Command Register low word (R48) -/

/-- The operand fields of a command word (R48). -/
def commandFields (w : Word) : CommandFields where
  shorthand     := w.extractLsb' 18 2
  readStatus    := w.extractLsb' 16 2
  triggerLevel  := w.getLsbD 15
  level         := w.getLsbD 14
  deliveryState := w.getLsbD 12
  logical       := w.getLsbD 11
  vector        := w.extractLsb' 0 8

/-- R48: the bits 31:20 and 13 of a command word belong to no field. -/
def commandReserved (w : Word) : Bool := w.extractLsb' 20 12 != 0#12 || w.getLsbD 13

/-- R48: the command word of a delivery mode code and its operand fields. -/
def commandWord (mode : BitVec 3) (f : CommandFields) : Word :=
  0#12 ++ (f.shorthand ++ (f.readStatus ++ (BitVec.ofBool f.triggerLevel ++ (BitVec.ofBool f.level ++ (0#1 ++
    (BitVec.ofBool f.deliveryState ++ (BitVec.ofBool f.logical ++ (mode ++ f.vector))))))))

/-- The row of a delivery mode code (R48). -/
def commandInstr (mode : BitVec 3) (p : Nat) (f : CommandFields) : Instr :=
  match mode.toNat with
  | 0 => .msgFixed p f
  | 1 => .msgLowestPriority p f
  | 2 => .msgReserved010 p f
  | 3 => .msgRemoteRead p f
  | 4 => .msgNmi p f
  | 5 => .msgReset p f
  | 6 => .msgReserved110 p f
  | _ => .msgExtint p f

/-! ### JTAG opcodes (R120, R256) -/

/-- The row of a JTAG opcode. -/
def jtagInstr (op : BitVec 4) (k : Nat) (tdi : List Bool) : Instr :=
  match op.toNat with
  | 0 => .jtagExtest k tdi
  | 1 => .jtagSamplePreload k tdi
  | 2 => .jtagIdcode k tdi
  | 3 => .jtagUnlisted0011 k tdi
  | 4 => .jtagUnlisted0100 k tdi
  | 5 => .jtagUnlisted0101 k tdi
  | 6 => .jtagUnlisted0110 k tdi
  | 7 => .jtagUnlisted0111 k tdi
  | 8 => .jtagUnlisted1000 k tdi
  | 9 => .jtagReserved1001 k tdi
  | 10 => .jtagUnlisted1010 k tdi
  | 11 => .jtagUnlisted1011 k tdi
  | 12 => .jtagUnlisted1100 k tdi
  | 13 => .jtagUnlisted1101 k tdi
  | 14 => .jtagUnlisted1110 k tdi
  | _ => .jtagBypass k tdi

/-! ### The decoder -/

/-- A processor's cycle in a space (R80, R83, R100, R101). -/
def decodeBus (pf : Platform) (sp : Space) (c : Cycle) : Except DecodeError Instr :=
  match addressTarget pf sp c.word with
  | .outside => .error .outsideDevices
  | .localUnit sel =>
    if c.width == .dword && aligned c.word then .ok (localInstr sel c.agent c.access) else .error .partialOrOffsetAccess
  | .ioUnit n sel =>
    if c.width == .dword && aligned c.word then .ok (ioInstr sel c.agent n c.access) else .error .partialOrOffsetAccess

/-- The operation a cycle stands for on a platform, or the reason it stands for none. -/
def decode (pf : Platform) (c : Cycle) : Except DecodeError Instr :=
  match c.port with
  | .bus => decodeBus pf .memory c
  | .ioSpace => decodeBus pf .io c
  | .window =>
    if c.word.extractLsb' 8 24 == 0#24 then
      if c.width == .dword then
        (if unitHasAddress pf c.unit then .ok (indexInstr (c.word.extractLsb' 0 8) c.agent c.unit c.access)
         else .error .unitWithoutPage)
      else .error .partialOrOffsetAccess
    else .error .tooManyBits
  | .command =>
    if commandReserved c.word then .error .reservedCommandBits
    else .ok (commandInstr (c.word.extractLsb' 8 3) c.agent (commandFields c.word))
  | .tap =>
    if c.word.extractLsb' 4 28 == 0#28 then .ok (jtagInstr (c.word.extractLsb' 0 4) c.agent c.serial)
    else .error .tooManyBits
  | .fifo =>
    if c.word.extractLsb' 8 24 == 0x12#24 then .ok (.fdcPerpendicularMode (c.word.extractLsb' 0 8))
    else if c.word.extractLsb' 16 16 == 0#16 then .error .otherFloppyCommand
    else .error .tooManyBits
  | .result => .ok .fdcDumpregResult8

/-! ### The encoder -/

/-- A cycle at the register of selector `sel` in the page at `l` (R112). -/
def registerCycle (l : Location) (sel : BitVec 6) (p : Nat) (a : Access) : Cycle :=
  ⟨spacePort l.space, p, 0, .dword, a, registerAddress l sel, []⟩

/-- An indirect access of I/O unit n at `idx` (R113). -/
def indexCycle (idx : Byte) (p n : Nat) (a : Access) : Cycle :=
  ⟨.window, p, n, .dword, a, idx.setWidth 32, []⟩

/-- A command word (R48). -/
def commandCycle (mode : BitVec 3) (p : Nat) (f : CommandFields) : Cycle :=
  ⟨.command, p, 0, .dword, .read, commandWord mode f, []⟩

/-- A JTAG opcode with the tdi stream of the data scan that follows it (R120). -/
def jtagCycle (op : BitVec 4) (k : Nat) (tdi : List Bool) : Cycle :=
  ⟨.tap, k, 0, .dword, .read, op.setWidth 32, tdi⟩

/-- The cycle of an operation on a platform. -/
def encode (pf : Platform) (i : Instr) : Cycle :=
  match i with
  | .luId p a => registerCycle pf.lu 0b000010#6 p a
  | .luVersion p a => registerCycle pf.lu 0b000011#6 p a
  | .luTpr p a => registerCycle pf.lu 0b001000#6 p a
  | .luEoi p a => registerCycle pf.lu 0b001011#6 p a
  | .luRemote p a => registerCycle pf.lu 0b001100#6 p a
  | .luLdr p a => registerCycle pf.lu 0b001101#6 p a
  | .luDfr p a => registerCycle pf.lu 0b001110#6 p a
  | .luSvr p a => registerCycle pf.lu 0b001111#6 p a
  | .luIsr p k a => registerCycle pf.lu (0b010#3 ++ k) p a
  | .luTmr p k a => registerCycle pf.lu (0b011#3 ++ k) p a
  | .luIrr p k a => registerCycle pf.lu (0b100#3 ++ k) p a
  | .luIcrLow p a => registerCycle pf.lu 0b110000#6 p a
  | .luIcrHigh p a => registerCycle pf.lu 0b110001#6 p a
  | .luLvtTimer p a => registerCycle pf.lu 0b110010#6 p a
  | .luLvtLint0 p a => registerCycle pf.lu 0b110101#6 p a
  | .luLvtLint1 p a => registerCycle pf.lu 0b110110#6 p a
  | .luTimerInit p a => registerCycle pf.lu 0b111000#6 p a
  | .luTimerCur p a => registerCycle pf.lu 0b111001#6 p a
  | .luTimerDiv p a => registerCycle pf.lu 0b111110#6 p a
  | .luReserved000000 p a => registerCycle pf.lu 0b000000#6 p a
  | .luReserved000001 p a => registerCycle pf.lu 0b000001#6 p a
  | .luReserved000100 p a => registerCycle pf.lu 0b000100#6 p a
  | .luReserved000101 p a => registerCycle pf.lu 0b000101#6 p a
  | .luReserved000110 p a => registerCycle pf.lu 0b000110#6 p a
  | .luReserved000111 p a => registerCycle pf.lu 0b000111#6 p a
  | .luReserved001001 p a => registerCycle pf.lu 0b001001#6 p a
  | .luReserved001010 p a => registerCycle pf.lu 0b001010#6 p a
  | .luReserved101000 p a => registerCycle pf.lu 0b101000#6 p a
  | .luReserved101001 p a => registerCycle pf.lu 0b101001#6 p a
  | .luReserved101010 p a => registerCycle pf.lu 0b101010#6 p a
  | .luReserved101011 p a => registerCycle pf.lu 0b101011#6 p a
  | .luReserved101100 p a => registerCycle pf.lu 0b101100#6 p a
  | .luReserved101101 p a => registerCycle pf.lu 0b101101#6 p a
  | .luReserved101110 p a => registerCycle pf.lu 0b101110#6 p a
  | .luReserved101111 p a => registerCycle pf.lu 0b101111#6 p a
  | .luReserved110011 p a => registerCycle pf.lu 0b110011#6 p a
  | .luReserved110100 p a => registerCycle pf.lu 0b110100#6 p a
  | .luReserved110111 p a => registerCycle pf.lu 0b110111#6 p a
  | .luReserved111010 p a => registerCycle pf.lu 0b111010#6 p a
  | .luReserved111011 p a => registerCycle pf.lu 0b111011#6 p a
  | .luReserved111100 p a => registerCycle pf.lu 0b111100#6 p a
  | .luReserved111101 p a => registerCycle pf.lu 0b111101#6 p a
  | .luReserved111111 p a => registerCycle pf.lu 0b111111#6 p a
  | .ioSelect p n a => registerCycle (ioLocation pf n) 0#6 p a
  | .ioWindow p n a => registerCycle (ioLocation pf n) 1#6 p a
  | .ioReservedDirect p n sel a => registerCycle (ioLocation pf n) sel p a
  | .ioIdxId p n a => indexCycle 0#8 p n a
  | .ioIdxVersion p n a => indexCycle 1#8 p n a
  | .ioIdxRtLow0To7 p n k a => indexCycle (rtIndex 1 k 0) p n a
  | .ioIdxRtHigh0To7 p n k a => indexCycle (rtIndex 1 k 1) p n a
  | .ioIdxRtLow8To15 p n k a => indexCycle (rtIndex 2 k 0) p n a
  | .ioIdxRtHigh8To15 p n k a => indexCycle (rtIndex 2 k 1) p n a
  | .ioIdxReserved p n idx a => indexCycle idx p n a
  | .msgFixed p f => commandCycle 0b000#3 p f
  | .msgLowestPriority p f => commandCycle 0b001#3 p f
  | .msgReserved010 p f => commandCycle 0b010#3 p f
  | .msgRemoteRead p f => commandCycle 0b011#3 p f
  | .msgNmi p f => commandCycle 0b100#3 p f
  | .msgReset p f => commandCycle 0b101#3 p f
  | .msgReserved110 p f => commandCycle 0b110#3 p f
  | .msgExtint p f => commandCycle 0b111#3 p f
  | .jtagExtest k tdi => jtagCycle 0b0000#4 k tdi
  | .jtagSamplePreload k tdi => jtagCycle 0b0001#4 k tdi
  | .jtagIdcode k tdi => jtagCycle 0b0010#4 k tdi
  | .jtagReserved1001 k tdi => jtagCycle 0b1001#4 k tdi
  | .jtagBypass k tdi => jtagCycle 0b1111#4 k tdi
  | .jtagUnlisted0011 k tdi => jtagCycle 0b0011#4 k tdi
  | .jtagUnlisted0100 k tdi => jtagCycle 0b0100#4 k tdi
  | .jtagUnlisted0101 k tdi => jtagCycle 0b0101#4 k tdi
  | .jtagUnlisted0110 k tdi => jtagCycle 0b0110#4 k tdi
  | .jtagUnlisted0111 k tdi => jtagCycle 0b0111#4 k tdi
  | .jtagUnlisted1000 k tdi => jtagCycle 0b1000#4 k tdi
  | .jtagUnlisted1010 k tdi => jtagCycle 0b1010#4 k tdi
  | .jtagUnlisted1011 k tdi => jtagCycle 0b1011#4 k tdi
  | .jtagUnlisted1100 k tdi => jtagCycle 0b1100#4 k tdi
  | .jtagUnlisted1101 k tdi => jtagCycle 0b1101#4 k tdi
  | .jtagUnlisted1110 k tdi => jtagCycle 0b1110#4 k tdi
  | .fdcPerpendicularMode pr => ⟨.fifo, 0, 0, .dword, .read, (0x12#8 ++ pr).setWidth 32, []⟩
  | .fdcDumpregResult8 => ⟨.result, 0, 0, .dword, .read, 0#32, []⟩

/-! ### The table's words -/

/-- The port at which a word of the table is presented, by its number of bits (DESIGN CHOICE, log 3). Words of 32 bits
are addresses of the recommended map in memory space (R82) or command words (a command word has bits 31:20 clear and no
such address has); words of 16 bits are floppy commands; among the 8-bit words the sixteen JTAG opcodes come first, the other values are indirect indices. -/
def tablePort (nbits w : Nat) : Port :=
  if nbits ≤ 4 then .tap
  else if nbits ≤ 8 then (if w < 16 then .tap else .window)
  else if nbits ≤ 16 then .fifo
  else if w < 2 ^ 20 then .command
  else .bus

/-- A word of the table as a cycle whose unencoded operands are zero: processor or package 0, I/O unit 0, a read, no
tdi bits. -/
def tableCycle (nbits w : Nat) : Cycle := ⟨tablePort nbits w, 0, 0, .dword, .read, BitVec.ofNat 32 w, []⟩

/-- The operation the decoder reads, on the recommended platform, from an instruction whose bits are `w`. -/
def decodeTableWord (nbits w : Nat) : Option Instr :=
  if w < 2 ^ 32 then
    match decode .recommended (tableCycle nbits w) with
    | .ok i => some i
    | .error _ => none
  else none

end Sys2Proof
end

