-- ==== Sys2Proof/Machine/IoUnit.lean ====
section
/-!
DEFINITION. The I/O unit (file 41): its registers through select and window (R200 to R202), the redirection table (R205),
its edge and level inputs (R206 to R208), and the messages it sends.
-/

namespace Sys2Proof.Machine

/-! ### Registers -/

/-- The redirection entry of an index 0x10 to 0x2F (R201). -/
def entryOfIndex (i : Byte) : Fin 16 := ((i - 0x10#8).extractLsb' 1 4).toFin

/-- The low word of an entry as software reads it: remote IRR of an edge entry reads 0 (R210). -/
def readEntryLow (e : Word64) : Word :=
  if triggerOf (lowWord e) = .edge then setBit (lowWord e) remoteIrrBit false else lowWord e

/-- The value of the register an index names (R61, R201); `none` is `any value`. -/
def indexRead (i : Byte) (u : IoUnit) : Option Word :=
  if i = 0x00#8 then some u.id
  else if i = 0x01#8 then some versionWord
  else if 0x10 ≤ i.toNat ∧ i.toNat < 0x30 then
    if i.getLsbD 0 then some (highWord (u.rt.get (entryOfIndex i)))
    else some (readEntryLow (u.rt.get (entryOfIndex i)))
  else none

/-- `SELECT[7:0]` (R60). -/
def selectedIndex (u : IoUnit) : Byte := u.select.extractLsb' 0 8

/-- `IoUnitRead` (R201). -/
def ioRead (sel : BitVec 6) (u : IoUnit) : Option Word :=
  match sel.toNat with
  | 0 => some u.select
  | 1 => indexRead (selectedIndex u) u
  | _ => none

/-! ### Entries and pins -/

/-- Entry `k` replaced. -/
def setEntry (k : Fin 16) (e : Word64) (u : IoUnit) : IoUnit := { u with rt := u.rt.set k.val e k.isLt }

/-- Pin `k` and its detector replaced. -/
def setPin (k : Fin 16) (x : InputPin) (u : IoUnit) : IoUnit := { u with pins := u.pins.set k.val x k.isLt }

/-- `LEVEL_SENT[k]` replaced. -/
def setLevelSent (k : Fin 16) (b : Bool) (u : IoUnit) : IoUnit :=
  { u with levelSent := u.levelSent.set k.val b k.isLt }

/-- A bit of the low word of entry `k` replaced. -/
def setEntryBit (k : Fin 16) (i : Nat) (b : Bool) (u : IoUnit) : IoUnit := setEntry k (setBit (u.rt.get k) i b) u

/-- R205, R49: a write of the low word of entry `k`; masking it makes its detector forget (R182). -/
def storeEntryLow (k : Fin 16) (v : Word) (u : IoUnit) : IoUnit :=
  let e := u.rt.get k
  let w := writeMasked rtLowMask entryReadOnly (lowWord e) v
  let u' := setEntry k (joinWords (highWord e) w) u
  if maskedOf w then setPin k ⟨(u.pins.get k).level, .waiting⟩ u' else u'

/-- R205: a write of the high word of entry `k`. -/
def storeEntryHigh (k : Fin 16) (v : Word) (u : IoUnit) : IoUnit :=
  setEntry k (joinWords v (lowWord (u.rt.get k))) u

/-! ### Sending (R206, R207) -/

/-- The message of entry `k` of unit `n`. -/
def entryMessage (n : Nat) (k : Fin 16) (mode : DeliveryMode) (lvl : Bool) (u : IoUnit) : Message :=
  let e := u.rt.get k
  { source      := .io n k
    srcId       := unitIdOf u.id
    vector      := vectorOf (lowWord e)
    mode        := mode
    destMode    := destModeOf (lowWord e)
    level       := lvl
    trigger     := triggerOf (lowWord e)
    destination := destinationOf (destModeOf (lowWord e)) (highWord e)
    shorthand   := .none }

/-- Unit `n`, in state `u`, sends the message of pin `k`: Remote Read and the codes without a mode are meaningless here
(R205, U6), as is a combination outside the table of R176. The entry's delivery state becomes Send Pending (G8). -/
def ioSend (n : Nat) (k : Fin 16) (lvl : Bool) (u : IoUnit) (s : State) : Res :=
  match deliveryModeOf (modeCodeOf (lowWord (u.rt.get k))) with
  | none => .fault .redirectionDeliveryMode
  | some mode =>
    if mode = .remoteRead then .fault .redirectionDeliveryMode
    else if meaningful mode (triggerOf (lowWord (u.rt.get k))) then
      .next (sendMessage (modifyIo s n (setEntryBit k deliveryStateBit true)) (entryMessage n k mode lvl u))
    else .fault .deliveryTriggerCombination

/-- R207: an unmasked level entry sends when its pin and what it last sent differ. -/
def followLevel (n : Nat) (k : Fin 16) (s : State) : Res :=
  withPackage s n fun pk =>
    let u := pk.iou
    let w := lowWord (u.rt.get k)
    let lvl := (u.pins.get k).level
    if maskedOf w = false ∧ triggerOf w = .level ∧ lvl ≠ u.levelSent.get k then
      ioSend n k lvl u (modifyIo s n (setLevelSent k lvl))
    else .next s

/-! ### Writes (R201) -/

/-- Unit `n` is held while its RESET pin is high (R360, log 41): a write to it then has no effect. -/
def ioStore (n : Nat) (s : State) (f : State → Res) : Res :=
  functional s n fun pk => if pk.resetPin then .next s else f s

/-- R200: bits 7:0 select, the others are reserved. -/
def writeSelect (n : Nat) (v : Word) (s : State) : Res :=
  ioStore n s fun s => .next (modifyIo s n fun u => { u with select := v &&& 0xFF#32 })

/-- A write of the register an index names (R201); version is read only (R49), the reserved ones as D10. -/
def indexWrite (n : Nat) (i : Byte) (v : Word) (s : State) : Res :=
  if i = 0x00#8 then .next (modifyIo s n fun u => { u with id := v &&& idMask })
  else if i = 0x01#8 then .next s
  else if 0x10 ≤ i.toNat ∧ i.toNat < 0x30 then
    if i.getLsbD 0 then .next (modifyIo s n (storeEntryHigh (entryOfIndex i) v))
    else followLevel n (entryOfIndex i) (modifyIo s n (storeEntryLow (entryOfIndex i) v))
  else .next (flagReserved s)

/-- R201: a write of the window register. -/
def writeWindow (n : Nat) (v : Word) (s : State) : Res :=
  ioStore n s fun s => withPackage s n fun pk => indexWrite n (selectedIndex pk.iou) v s

/-- A write of a reserved direct register (R60, R47). -/
def writeIoReserved (n : Nat) (s : State) : Res := ioStore n s fun s => .next (flagReserved s)

/-- `IoUnitWrite` (R201). -/
def ioWrite (n : Nat) (sel : BitVec 6) (v : Word) (s : State) : Res :=
  match sel.toNat with
  | 0 => writeSelect n v s
  | 1 => writeWindow n v s
  | _ => writeIoReserved n s

/-! ### Input pins (R181, R206 to R208) -/

/-- A sample of an edge input: the detector sees an up-edge (R181). -/
def sampleEdge (x : InputPin) (lvl : Bool) : InputPin :=
  ⟨lvl, if x.edge = .waiting ∧ x.level = false ∧ lvl = true then .seen else x.edge⟩

/-- INTIN`k` of unit `n` takes a level. A unit held by RESET or in need of a reset (R368(b)) only has the level at its pin,
as a masked entry has. -/
def intPin (n : Nat) (k : Fin 16) (lvl : Bool) (s : State) : Res :=
  withPackage s n fun pk =>
    let w := lowWord (pk.iou.rt.get k)
    let x := pk.iou.pins.get k
    if pk.needsReset = true ∨ pk.resetPin = true ∨ maskedOf w = true then .next (modifyIo s n (setPin k ⟨lvl, .waiting⟩))
    else if triggerOf w = .edge then .next (modifyIo s n (setPin k (sampleEdge x lvl)))
    else followLevel n k (modifyIo s n (setPin k ⟨lvl, x.edge⟩))

/-- Pin `k` of `u` holds a seen edge of an unmasked edge entry. -/
def edgeReady (u : IoUnit) (k : Fin 16) : Bool :=
  !maskedOf (lowWord (u.rt.get k)) && triggerOf (lowWord (u.rt.get k)) == .edge && (u.pins.get k).edge == .seen

/-- The pin that is served next: the lowest (D19). -/
def nextEdge (u : IoUnit) : Option (Fin 16) := (List.finRange 16).find? (edgeReady u)

/-- R181, R206: unit `n` is about to send for the next edge input, samples it again, and sends unless it was a glitch. -/
def ioSample (n : Nat) (s : State) : Res :=
  functional s n fun pk =>
    if pk.resetPin then .next s
    else
      match nextEdge pk.iou with
      | none => .next s
      | some k =>
        let s' := modifyIo s n (setPin k ⟨(pk.iou.pins.get k).level, .waiting⟩)
        if (pk.iou.pins.get k).level then ioSend n k true pk.iou s' else .next s'

end Sys2Proof.Machine
end

