-- ==== Sys2Proof/Machine/Command.lean ====
section
/-!
DEFINITION. The Interrupt Command Register (R170 to R176): the write of its low word, the message it sends, and the
shorthand Self, which is delivered at once without the bus (R173).
-/

namespace Sys2Proof.Machine

/-- The stored low word after a write of `v`: read-only fields keep their hardware values (R170, R49). -/
def storedCommand (u : LocalUnit) (v : Word) : Word := writeMasked icrMask icrReadOnly u.icrLow v

/-- The message of the command word `w` of the unit `u` of package `p` (R170); with a shorthand the destination is all
ones (R171 item 7). -/
def commandMessage (p : Nat) (u : LocalUnit) (mode : DeliveryMode) (w : Word) : Message :=
  { source      := .local p
    srcId       := unitIdOf u.id
    vector      := vectorOf w
    mode        := mode
    destMode    := destModeOf w
    level       := levelOf w
    trigger     := triggerOf w
    destination := if shorthandOf w = .none then destinationOf (destModeOf w) u.icrHigh else 0xFFFFFFFF#32
    shorthand   := shorthandOf w }

/-- The low word while its message waits: delivery state not Idle (R170), and for Remote Read the status in progress
(R172, log 22). -/
def pendingCommand (mode : DeliveryMode) (w : Word) : Word :=
  setBit (if mode = .remoteRead then setReadStatus w readInProgress else w) deliveryStateBit true

/-- A value a Remote Read returns: the register's, or where the sources give none a free value (U1, U4). -/
def remoteValue (s : State) (v : Option Word) : Word :=
  match v with
  | some w => w
  | none => Config.freeWord s.fresh

/-- The counter after a Remote Read of `v`. -/
def remoteFresh (s : State) (v : Option Word) : Nat :=
  match v with
  | some _ => s.fresh
  | none => s.fresh + 1

/-- R172: the sender `p` stores what was read and marks the status valid. -/
def storeRemote (s : State) (p : Nat) (v : Option Word) : State :=
  modifyLocal { s with fresh := remoteFresh s v } p fun u =>
    { u with remote := remoteValue s v, icrLow := setReadStatus u.icrLow readValid }

/-- R173: the effect of the command on the unit itself, at once, the delivery state staying Idle; `u` is the unit of
package `p` before the command, whose low word is already stored in `s`. The enable bit is not asked: R173 names the target
without R161 (DEDUCED, log 16). -/
def deliverSelf (p : Nat) (u : LocalUnit) (m : Message) (s : State) : State :=
  match m.mode with
  | .fixed => modifyLocal s p (acceptFixed m.vector m.trigger m.level)
  | .lowestPriority => modifyLocal s p (acceptFixed m.vector m.trigger m.level)
  | .extInt => modifyLocal s p acceptExtInt
  | .nmi => modifyLocal s p (acceptNmi m.level)
  | .reset => if m.level then resetByMessage s p else releaseByMessage s p
  | .remoteRead => storeRemote s p (localRead (remoteSelector m.vector) u)

/-- `s` with the low word of package `p` at `w`. -/
def storeIcrLow (s : State) (p : Nat) (w : Word) : State := modifyLocal s p fun u => { u with icrLow := w }

/-- A checked command: delivered at once with shorthand Self, else sent (R170). -/
def issueCommand (p : Nat) (u : LocalUnit) (mode : DeliveryMode) (w : Word) (s : State) : State :=
  if shorthandOf w = .self then
    deliverSelf p { u with icrLow := w } (commandMessage p u mode w) (storeIcrLow s p w)
  else sendMessage (storeIcrLow s p (pendingCommand mode w)) (commandMessage p u mode w)

/-- `ICRLowWrite` (R170), with the checks of R128, R171 and R176, and U7 while a message waits; in reset the
unit ignores it (log 41). -/
def writeIcrLow (p : Nat) (v : Word) (s : State) : Res :=
  functional s p fun k =>
    if unitHeld k then .next s
    else if sendPending k.lu.icrLow then .fault .icrWrittenWhileBusy
    else
      let w := storedCommand k.lu v
      match deliveryModeOf (modeCodeOf w) with
      | none => .fault .icrCombination
      | some mode =>
        if restricted mode w k.lu.icrHigh then .fault .icrCombination
        else if meaningful mode (triggerOf w) then .next (issueCommand p k.lu mode w s)
        else .fault .deliveryTriggerCombination

end Sys2Proof.Machine
end

