-- ==== Sys2Proof/Machine/Registers.lean ====
section
/-!
DEFINITION. Writes of the local unit registers (R101), one definition per register, and the local interrupt sources that
the Local Vector Table entries program (R180 to R184).
-/

namespace Sys2Proof.Machine

/-- A write that changes the local unit of package `p` only; in reset the unit ignores it (R360, log 41). -/
def localStore (p : Nat) (s : State) (f : LocalUnit → LocalUnit) : Res :=
  functional s p fun k => if unitHeld k then .next s else .next (modifyLocal s p f)

/-- A write the unit ignores (R49). -/
def localIgnore (p : Nat) (s : State) : Res := functional s p fun _ => .next s

/-! ### One register each -/

/-- R31, R101: the unit ID. -/
def writeId (p : Nat) (v : Word) (s : State) : Res := localStore p s fun u => { u with id := v &&& idMask }

/-- R32, R49. -/
def writeVersion (p : Nat) (_ : Word) (s : State) : Res := localIgnore p s

/-- R145. -/
def writeTpr (p : Nat) (v : Word) (s : State) : Res :=
  localStore p s fun u => dispense { u with tpr := v &&& tprMask }

/-- R150: a write of any value. -/
def writeEoi (p : Nat) (_ : Word) (s : State) : Res := localStore p s endOfInterrupt

/-- R35, R49. -/
def writeRemote (p : Nat) (_ : Word) (s : State) : Res := localIgnore p s

/-- R36. -/
def writeLdr (p : Nat) (v : Word) (s : State) : Res := localStore p s fun u => { u with ldr := v }

/-- R37; the implemented bits are a parameter (log 6). -/
def writeDfr (p : Nat) (v : Word) (s : State) : Res := localStore p s fun u => { u with dfr := v &&& Config.dfrMask }

/-- R140: the unit after a write of the SVR that leaves it enabled: PNMI is driven, the mechanism starts. -/
def storeSvr (v : Word) (u : LocalUnit) : LocalUnit :=
  let u' := { u with svr := v &&& svrMask }
  if enabled u' then dispense (if enabled u then u' else { u' with pnmi := driven u.nmiOut }) else u'

/-- R38, R140, R374: clearing the enable bit of an enabled unit is undefined (U11). -/
def writeSvr (p : Nat) (v : Word) (s : State) : Res :=
  functional s p fun k =>
    if unitHeld k then .next s
    else if enabled k.lu = true ∧ svrEnable v = false then .fault .localUnitDisabledBySvr
    else .next (modifyLocal s p (storeSvr v))

/-- R39, R49. -/
def writeIsr (p : Nat) (_ : Word) (s : State) : Res := localIgnore p s

/-- R40, R49. -/
def writeTmr (p : Nat) (_ : Word) (s : State) : Res := localIgnore p s

/-- R41, R49. -/
def writeIrr (p : Nat) (_ : Word) (s : State) : Res := localIgnore p s

/-- R42: no other effect. -/
def writeIcrHigh (p : Nat) (v : Word) (s : State) : Res := localStore p s fun u => { u with icrHigh := v }

/-- R43, timer entry. -/
def writeLvtTimer (p : Nat) (v : Word) (s : State) : Res :=
  localStore p s fun u => { u with lvtTimer := writeMasked lvtTimerMask timerReadOnly u.lvtTimer v }

/-- The detector of an input whose entry has become `e`: it waits while masked (R182). -/
def rearm (e : Word) (x : InputPin) : InputPin := if maskedOf e then ⟨x.level, .waiting⟩ else x

/-- R43, local int 0. -/
def writeLvtLint0 (p : Nat) (v : Word) (s : State) : Res :=
  localStore p s fun u =>
    let e := writeMasked lvtLintMask entryReadOnly u.lvtLint0 v
    { u with lvtLint0 := e, lint0 := rearm e u.lint0 }

/-- R43, local int 1. -/
def writeLvtLint1 (p : Nat) (v : Word) (s : State) : Res :=
  localStore p s fun u =>
    let e := writeMasked lvtLintMask entryReadOnly u.lvtLint1 v
    { u with lvtLint1 := e, lint1 := rearm e u.lint1 }

/-- R44, R58: the count starts (G7, log 28). -/
def writeTimerInit (p : Nat) (v : Word) (s : State) : Res :=
  localStore p s fun u => { u with timerInit := v, timerCur := v }

/-- R45, R49. -/
def writeTimerCur (p : Nat) (_ : Word) (s : State) : Res := localIgnore p s

/-- R46; the implemented bits are a parameter (log 6). -/
def writeTimerDiv (p : Nat) (v : Word) (s : State) : Res :=
  localStore p s fun u => { u with timerDiv := v &&& Config.timerDivMask }

/-- R47, D10: a reserved selector. -/
def writeReserved (p : Nat) (s : State) : Res :=
  functional s p fun k => if unitHeld k then .next s else .next (flagReserved s)

/-- `LocalWrite` (R101) by selector. -/
def localWrite (p : Nat) (sel : BitVec 6) (v : Word) (s : State) : Res :=
  match sel.toNat with
  | 0b000010 => writeId p v s
  | 0b000011 => writeVersion p v s
  | 0b001000 => writeTpr p v s
  | 0b001011 => writeEoi p v s
  | 0b001100 => writeRemote p v s
  | 0b001101 => writeLdr p v s
  | 0b001110 => writeDfr p v s
  | 0b001111 => writeSvr p v s
  | 0b110000 => writeIcrLow p v s
  | 0b110001 => writeIcrHigh p v s
  | 0b110010 => writeLvtTimer p v s
  | 0b110101 => writeLvtLint0 p v s
  | 0b110110 => writeLvtLint1 p v s
  | 0b111000 => writeTimerInit p v s
  | 0b111001 => writeTimerCur p v s
  | 0b111110 => writeTimerDiv p v s
  | _ =>
    if sel.extractLsb' 3 3 = 0b010#3 then writeIsr p v s
    else if sel.extractLsb' 3 3 = 0b011#3 then writeTmr p v s
    else if sel.extractLsb' 3 3 = 0b100#3 then writeIrr p v s
    else writeReserved p s

/-! ### Local interrupt sources -/

/-- The entry of a local source (R43). -/
def lvtOf (k : LvtEntry) (u : LocalUnit) : Word :=
  match k with
  | .timer => u.lvtTimer
  | .lint .lint0 => u.lvtLint0
  | .lint .lint1 => u.lvtLint1

/-- The input pin of a LINTIN source (R56). -/
def lintOf (j : Lint) (u : LocalUnit) : InputPin :=
  match j with
  | .lint0 => u.lint0
  | .lint1 => u.lint1

/-- That pin replaced. -/
def setLint (j : Lint) (x : InputPin) (u : LocalUnit) : LocalUnit :=
  match j with
  | .lint0 => { u with lint0 := x }
  | .lint1 => { u with lint1 := x }

/-- The trigger mode with which a source's Fixed interrupt is accepted: the timer's as an edge (R184). -/
def sourceTrigger (k : LvtEntry) (e : Word) : TriggerMode :=
  match k with
  | .timer => .edge
  | .lint _ => triggerOf e

/-- `remote_irr` of a LINT entry, kept as R210 keeps it for a redirection entry (DEDUCED, log 24). -/
def mirrorRemoteIrr (k : LvtEntry) (lvl : Bool) (u : LocalUnit) : LocalUnit :=
  match k with
  | .timer => u
  | .lint .lint0 =>
    if triggerOf u.lvtLint0 = .level ∧ 16 ≤ (vectorOf u.lvtLint0).toNat then
      { u with lvtLint0 := setBit u.lvtLint0 remoteIrrBit lvl }
    else u
  | .lint .lint1 =>
    if triggerOf u.lvtLint1 = .level ∧ 16 ≤ (vectorOf u.lvtLint1).toNat then
      { u with lvtLint1 := setBit u.lvtLint1 remoteIrrBit lvl }
    else u

/-- `InjectLocal` (R180): source `k` of package `p` fires with `lvl`. The pair of R176 is the one the entry is programmed with,
for the timer too, whose NMI, programmed Level, drives PNMI with `lvl` (DEDUCED, log 28). -/
def injectLocal (p : Nat) (k : LvtEntry) (lvl : Bool) (s : State) : Res :=
  withPackage s p fun pk =>
    let e := lvtOf k pk.lu
    if maskedOf e then .next s
    else
      match deliveryModeOf (modeCodeOf e) with
      | some .fixed =>
        .next (modifyLocal s p fun u => acceptFixed (vectorOf e) (sourceTrigger k e) lvl (mirrorRemoteIrr k lvl u))
      | some .extInt =>
        if meaningful .extInt (triggerOf e) then .next (modifyLocal s p acceptExtInt) else .fault .deliveryTriggerCombination
      | some .nmi =>
        if meaningful .nmi (triggerOf e) then .next (modifyLocal s p (acceptNmi lvl)) else .fault .deliveryTriggerCombination
      | _ => .fault .lvtDeliveryMode

/-- LINTIN`j` of package `p` takes a level (R181 to R183). A unit held by RESET or in need of a reset (R368(b)) only has the
level at its pin, as a masked entry has. -/
def lintPin (p : Nat) (j : Lint) (lvl : Bool) (s : State) : Res :=
  withPackage s p fun pk =>
    let e := lvtOf (.lint j) pk.lu
    let x := lintOf j pk.lu
    if pk.needsReset = true ∨ pk.resetPin = true ∨ maskedOf e = true then .next (modifyLocal s p (setLint j ⟨lvl, .waiting⟩))
    else if triggerOf e = .edge then .next (modifyLocal s p (setLint j (sampleEdge x lvl)))
    else if x.level = lvl then .next s
    else injectLocal p (.lint j) lvl (modifyLocal s p (setLint j ⟨lvl, x.edge⟩))

/-- R181: the second sampling of LINTIN`j`. -/
def lintSample (p : Nat) (j : Lint) (s : State) : Res :=
  functional s p fun pk =>
    let e := lvtOf (.lint j) pk.lu
    let x := lintOf j pk.lu
    if pk.resetPin = false ∧ maskedOf e = false ∧ triggerOf e = .edge ∧ x.edge = .seen then
      let s' := modifyLocal s p (setLint j ⟨x.level, .waiting⟩)
      if x.level then injectLocal p (.lint j) true s' else .next s'
    else .next s

/-- The count after one divided clock from a count that is not 0 (R58). -/
def countedDown (u : LocalUnit) : Word :=
  if u.timerCur = 1#32 then (if periodicOf u.lvtTimer then u.timerInit else 0#32) else u.timerCur - 1#32

/-- R58, R184: one divided clock of the timer of package `p` (log 28). -/
def timerTick (p : Nat) (s : State) : Res :=
  functional s p fun pk =>
    if pk.resetPin = true ∨ pk.lu.timerCur = 0#32 then .next s
    else
      let s' := modifyLocal s p fun u => { u with timerCur := countedDown u }
      if pk.lu.timerCur = 1#32 then injectLocal p .timer true s' else .next s'

end Sys2Proof.Machine
end

