-- ==== Sys2Proof/Machine/Bus.lean ====
section
/-!
DEFINITION. A processor at the bus: register reads and writes through the write buffer (R80, R85 to R90, R100, R101), the
acknowledge (R317), memory as each processor sees it (R93), and cycles outside the 82489DX pages.
-/

namespace Sys2Proof.Machine

/-! ### The write buffer -/

/-- R101: a buffered write reaches the device its address in memory space selects. The write buffer holds such writes only. -/
def regWrite (p : Nat) (addr v : Word) (s : State) : Res :=
  match addressTarget s.platform .memory addr with
  | .localUnit sel => localWrite p sel v s
  | .ioUnit n sel => ioWrite n sel v s
  | .outside => .next s

/-- `s` with the write buffer of processor `p` at `l`. -/
def setBuffer (s : State) (p : Nat) (l : List (Word × Word)) : State := modifyCpu s p fun c => { c with wbuf := l }

/-- R85, R88: the listed writes reach their registers, first in, first out. -/
def drainList (p : Nat) (l : List (Word × Word)) (s : State) : Res :=
  match l with
  | [] => .next s
  | w :: r => andThen (regWrite p w.1 w.2 (setBuffer s p r)) (drainList p r)

/-- R86: every buffered write of processor `p` is drained. -/
def drainAll (p : Nat) (s : State) : Res := withPackage s p fun k => drainList p k.cpu.wbuf s

/-- R85: the oldest buffered write of processor `p` drains, if there is one; a processor in reset issues no cycle (R24). -/
def drainOne (p : Nat) (s : State) : Res :=
  withProcessor s p fun k =>
    if cpuHeld k then .next s
    else
      match k.cpu.wbuf with
      | [] => .next s
      | w :: r => regWrite p w.1 w.2 (setBuffer s p r)

/-! ### Register accesses -/

/-- What every bus operation of processor `p` at a register in the space `sp` is subject to: the platform has the processor (R9);
held in reset it issues none (R24, R320); the page must be mapped uncached where the unit is memory mapped (R90, U5; not asked
in I/O space: DEDUCED, log 14). A package that must be reset refuses the access where it reaches its own unit (R368(b)). -/
def busGate (sp : Space) (p : Nat) (s : State) (f : Package → Res) : Res :=
  withProcessor s p fun k =>
    if cpuHeld k then .next s
    else if sp = .memory ∧ k.cpu.pageUncached = false then .refused .apicPageCached
    else f k

/-- R85, R101: a write of `v` to the register of selector `sel` in the page at `l`, whose effect there is `wr`: it may be
posted, if the unit is memory mapped (R23) and the buffer has room; otherwise it follows the writes before it (R88). -/
def postOrWrite (p : Nat) (l : Location) (sel : BitVec 6) (v : Word) (posted : Bool) (wr : Word → State → Res) (s : State) :
    Res :=
  withPackage s p fun k =>
    if posted = true ∧ l.space = .memory ∧ k.cpu.wbuf.length < Config.wbufDepth then
      .next (setBuffer s p (k.cpu.wbuf ++ [(registerAddress l sel, v)]))
    else andThen (drainAll p s) (wr v)

/-- R80, R100, R101: an access of processor `p` to the register of selector `sel` in the page at `l`; `rd` is the read, `wr`
the write. -/
def registerAccess (p : Nat) (l : Location) (sel : BitVec 6) (a : Access) (rd : State → Res) (wr : Word → State → Res)
    (s : State) : Res :=
  busGate l.space p s fun _ =>
    match a with
    | .read => andThen (drainAll p s) rd
    | .write v posted => postOrWrite p l sel v posted wr s

/-- A read of processor `p`'s own local unit (R82, R100). -/
def readLocal (p : Nat) (rd : LocalUnit → Option Word) (s : State) : Res :=
  functional s p fun k => .next (returnRead s p (rd k.lu))

/-- A read of I/O unit `n` by processor `p` (R82, R100). -/
def readIo (p n : Nat) (rd : IoUnit → Option Word) (s : State) : Res :=
  functional s n fun k => .next (returnRead s p (rd k.iou))

/-- An access to a local unit register by its selector (R30, R112). -/
def localAccess (p : Nat) (sel : BitVec 6) (a : Access) (rd : LocalUnit → Option Word) (wr : Nat → Word → State → Res)
    (s : State) : Res :=
  registerAccess p s.platform.lu sel a (readLocal p rd) (wr p) s

/-- An access to a direct register of I/O unit `n` (R60, R112); a fault where the platform has none (R9). -/
def ioAccess (p n : Nat) (sel : BitVec 6) (a : Access) (s : State) : Res :=
  match s.platform.ious[n]? with
  | some l => registerAccess p l sel a (readIo p n (ioRead sel)) (ioWrite n sel) s
  | none => .fault .noSuchUnit

/-- An access to an indirect register: select, then window (R113, R201, log 37). The select write is posted if the window
write is. -/
def indexAccess (p n : Nat) (i : Byte) (a : Access) (s : State) : Res :=
  let posted := match a with | .read => false | .write _ b => b
  andThen (ioAccess p n 0#6 (.write (i.setWidth 32) posted) s) (ioAccess p n 1#6 a)

/-! ### Commands (R170) -/

/-- A write of the ICR low word with the command word `w`, presented as a command (R48, log 38): not posted. -/
def commandAccess (p : Nat) (w : Word) (s : State) : Res :=
  localAccess p 0b110000#6 (.write w false) readIcrLow writeIcrLow s

/-! ### The acknowledge (R317, R320 to R322) -/

/-- The first cycle of `INTA(p)`; the processor may drain its buffer before it (R87), and the data of the cycle are free
(U18). Where the processor may not acknowledge, nothing happens (R317), and a local unit in reset does not answer (R360). -/
def intaFirst (p : Nat) (s : State) : Res :=
  withProcessor s p fun k =>
    if mayAcknowledge k then
      andThen (if k.cpu.wbuf ≠ [] ∧ Config.intaFlushesWbuf = true then drainAll p s else .next s) fun s' =>
        functional s' p fun k' =>
          if unitHeld k' then .next s'
          else
            .next (modifyLocal (returnData { s' with fresh := s'.fresh + 1 } p (Config.freeAcknowledgeData s'.fresh)) p
              acknowledgeFirst)
    else .next s

/-- The vector an acknowledge returns to the processor, on the low byte of the data bus (R320). -/
def returnVector (s : State) (p : Nat) (v : Byte) : State :=
  modifyCpu s p fun c => { c with data := v.setWidth 32, vector := some v }

/-- The second cycle of `INTA(p)`; `ext` is the answer of an 8259A, if it is asked (R320, R321). -/
def intaSecond (p : Nat) (ext : Byte) (s : State) : Res :=
  withProcessor s p fun k =>
    if k.lu.intaPhase = .afterFirst then
      functional s p fun k => .next (modifyLocal (returnVector s p (acknowledgedVector k.lu ext)) p acknowledgeSecond)
    else .next s

/-! ### Memory (R81, R84, R93) -/

/-- The processors other than `p` that do not see a write of `p` at once. -/
def observers (p : Nat) (s : State) : List Nat :=
  (List.range s.packages.length).filter fun q => q != p && s.packages[q]?.any fun k => k.hasCpu

/-- The bytes a processor stores when it writes `v` at the listed addresses, for one observer (R84). -/
def pendingStores (q v : Nat) : List Word → List Store
  | [] => []
  | a :: r => ⟨q, a, BitVec.ofNat 8 v⟩ :: pendingStores q (v / 256) r

/-- R93: a write of processor `p` at the listed addresses: the processor sees it, every other one not yet (DESIGN CHOICE,
log 44). -/
def memoryStore (p v : Nat) (addrs : List Word) (s : State) : State :=
  { modifyPackage s p fun k => { k with view := writeBytes k.view v addrs } with
    unseen := s.unseen ++ (observers p s).flatMap fun q => pendingStores q v addrs }

/-- R93: the `i`-th unseen byte comes into its observer's sight. The order is left open: any byte may be the next (log 44). -/
def storeSeen (i : Nat) (s : State) : State :=
  match s.unseen[i]? with
  | some x =>
    { modifyPackage s x.observer fun k => { k with view := memWrite k.view x.addr.toNat x.byte } with
      unseen := s.unseen.eraseIdx i }
  | none => s

/-! ### Other cycles -/

/-- Whether an address in a space lies in an 82489DX page. -/
def inDevicePage (pf : Platform) (sp : Space) (a : Word) : Bool := addressTarget pf sp a != .outside

/-- R95, R299: an I/O address selects the floppy controller: SA9 to SA3 in a processor's cycle (AEN low), in the range that
jumper J7 chooses. -/
def selectsFloppy (pf : Platform) (a : Word) : Bool := !pldSelect (a.extractLsb' 3 7) false pf.addsel

/-- A cycle of a processor outside the registers: the platform has the processor, it is not held (R24), and a cycle that runs
into an 82489DX page is a partial access (U3); else `f`. -/
def outsideRegisters (sp : Space) (c : Cycle) (s : State) (f : Package → Res) : Res :=
  withProcessor s c.agent fun k =>
    if cpuHeld k then .next s
    else if (accessAddresses c.word (widthBytes c.width)).any (inDevicePage s.platform sp) then
      .fault .partialOrOffsetAccess
    else f k

/-- A cycle to memory outside the device pages (R81, R84, R93). Every such address is taken to be writable memory that answers, the
boot code range at the top included (R82 leaves open where RAM is), and a cycle that is not aligned to be one cycle over
consecutive bytes (R91, N38): both DESIGN CHOICE, log 9. -/
def memoryAccess (c : Cycle) (s : State) : Res :=
  let addrs := accessAddresses c.word (widthBytes c.width)
  outsideRegisters .memory c s fun k =>
    match c.access with
    | .read => .next (returnData s c.agent (BitVec.ofNat 32 (readBytes k.view addrs)))
    | .write v _ => .next (memoryStore c.agent v.toNat addrs s)

/-- A cycle to I/O space outside the device pages (R81, R95): which register of the floppy controller a port is is not in the
sources (N50), and what answers elsewhere is outside them (N48). The size of the space is not stated; the model takes the
32 address lines of the bus (log 45). -/
def ioSpaceAccess (c : Cycle) (s : State) : Res :=
  outsideRegisters .io c s fun _ =>
    if (accessAddresses c.word (widthBytes c.width)).any (selectsFloppy s.platform) then .refused .floppyPortUnassigned
    else .refused .ioPortOutsideSpec

/-- The space of a cycle: an index cycle goes where its I/O unit lies. -/
def cycleSpace (pf : Platform) (c : Cycle) : Space :=
  match c.port with
  | .ioSpace => .io
  | .window => (ioLocation pf c.unit).space
  | _ => .memory

/-- What happens at a cycle that stands for no row of the table. -/
def otherCycle (e : DecodeError) (c : Cycle) (s : State) : Res :=
  match e with
  | .partialOrOffsetAccess => busGate (cycleSpace s.platform c) c.agent s fun _ => .fault .partialOrOffsetAccess
  | .outsideDevices => if c.port = .ioSpace then ioSpaceAccess c s else memoryAccess c s
  | .reservedCommandBits => .refused .malformedWord
  | .tooManyBits => .refused .malformedWord
  | .unitWithoutPage => .fault .noSuchUnit
  | .otherFloppyCommand =>
    andThen (fifoWrite (c.word.extractLsb' 8 8) s) (fifoWrite (c.word.extractLsb' 0 8))

end Sys2Proof.Machine
end

