-- ==== Sys2Proof/Machine/IoUnitRows.lean ====
section
/-!
DEFINITION. The meanings of the I/O unit rows: the direct registers (R60, R200, R201) and the indirect ones, each reached by
a select and a window access (R61, R113, R201).
-/

namespace Sys2Proof.Machine

/-- IOU.SELECT: R200. -/
def execIoSelect (p n : Nat) (a : Access) (s : State) : Res := ioAccess p n 0b000000#6 a s

/-- IOU.WINDOW: R201. -/
def execIoWindow (p n : Nat) (a : Access) (s : State) : Res := ioAccess p n 0b000001#6 a s

/-- IOU.reserved_direct: R60, U1. -/
def execIoReservedDirect (p n : Nat) (sel : BitVec 6) (a : Access) (s : State) : Res := ioAccess p n sel a s

/-- IOU.IDX_ID: R62, R202. -/
def execIoIdxId (p n : Nat) (a : Access) (s : State) : Res := indexAccess p n 0x00#8 a s

/-- IOU.IDX_VERSION: R61, R49. -/
def execIoIdxVersion (p n : Nat) (a : Access) (s : State) : Res := indexAccess p n 0x01#8 a s

/-- IOU.IDX_RT_LOW_0_7: R64, R205. -/
def execIoIdxRtLow0To7 (p n : Nat) (k : BitVec 3) (a : Access) (s : State) : Res := indexAccess p n (rtIndex 1 k 0) a s

/-- IOU.IDX_RT_HIGH_0_7: R64, R205. -/
def execIoIdxRtHigh0To7 (p n : Nat) (k : BitVec 3) (a : Access) (s : State) : Res := indexAccess p n (rtIndex 1 k 1) a s

/-- IOU.IDX_RT_LOW_8_15: R64, R205. -/
def execIoIdxRtLow8To15 (p n : Nat) (k : BitVec 3) (a : Access) (s : State) : Res := indexAccess p n (rtIndex 2 k 0) a s

/-- IOU.IDX_RT_HIGH_8_15: R64, R205. -/
def execIoIdxRtHigh8To15 (p n : Nat) (k : BitVec 3) (a : Access) (s : State) : Res := indexAccess p n (rtIndex 2 k 1) a s

/-- IOU.IDX_reserved: R61, U1. -/
def execIoIdxReserved (p n : Nat) (idx : Byte) (a : Access) (s : State) : Res := indexAccess p n idx a s

end Sys2Proof.Machine
end

