-- ==== Sys2Proof/Machine/LocalUnitRows.lean ====
section
/-!
DEFINITION. The meanings of the local unit rows of the table: one register selector each (R30, R47, R100, R101).
-/

namespace Sys2Proof.Machine

/-- LU.ID: R31. -/
def execLuId (p : Nat) (a : Access) (s : State) : Res := localAccess p 0b000010#6 a readId writeId s

/-- LU.VERSION: R32, R49. -/
def execLuVersion (p : Nat) (a : Access) (s : State) : Res := localAccess p 0b000011#6 a readVersion writeVersion s

/-- LU.TPR: R33, R145. -/
def execLuTpr (p : Nat) (a : Access) (s : State) : Res := localAccess p 0b001000#6 a readTpr writeTpr s

/-- LU.EOI: R34, R150. -/
def execLuEoi (p : Nat) (a : Access) (s : State) : Res := localAccess p 0b001011#6 a readEoi writeEoi s

/-- LU.REMOTE: R35, R49. -/
def execLuRemote (p : Nat) (a : Access) (s : State) : Res := localAccess p 0b001100#6 a readRemote writeRemote s

/-- LU.LDR: R36. -/
def execLuLdr (p : Nat) (a : Access) (s : State) : Res := localAccess p 0b001101#6 a readLdr writeLdr s

/-- LU.DFR: R37. -/
def execLuDfr (p : Nat) (a : Access) (s : State) : Res := localAccess p 0b001110#6 a readDfr writeDfr s

/-- LU.SVR: R38, R140, R374. -/
def execLuSvr (p : Nat) (a : Access) (s : State) : Res := localAccess p 0b001111#6 a readSvr writeSvr s

/-- LU.ISR[k]: R39, R49. -/
def execLuIsr (p : Nat) (k : BitVec 3) (a : Access) (s : State) : Res :=
  localAccess p (0b010#3 ++ k) a (readIsr k) writeIsr s

/-- LU.TMR[k]: R40, R49. -/
def execLuTmr (p : Nat) (k : BitVec 3) (a : Access) (s : State) : Res :=
  localAccess p (0b011#3 ++ k) a (readTmr k) writeTmr s

/-- LU.IRR[k]: R41, R49. -/
def execLuIrr (p : Nat) (k : BitVec 3) (a : Access) (s : State) : Res :=
  localAccess p (0b100#3 ++ k) a (readIrr k) writeIrr s

/-- LU.ICR_LOW: R42, R170. -/
def execLuIcrLow (p : Nat) (a : Access) (s : State) : Res := localAccess p 0b110000#6 a readIcrLow writeIcrLow s

/-- LU.ICR_HIGH: R42. -/
def execLuIcrHigh (p : Nat) (a : Access) (s : State) : Res := localAccess p 0b110001#6 a readIcrHigh writeIcrHigh s

/-- LU.LVT_TIMER: R43, R180. -/
def execLuLvtTimer (p : Nat) (a : Access) (s : State) : Res := localAccess p 0b110010#6 a readLvtTimer writeLvtTimer s

/-- LU.LVT_LINT0: R43, R180. -/
def execLuLvtLint0 (p : Nat) (a : Access) (s : State) : Res := localAccess p 0b110101#6 a readLvtLint0 writeLvtLint0 s

/-- LU.LVT_LINT1: R43, R180. -/
def execLuLvtLint1 (p : Nat) (a : Access) (s : State) : Res := localAccess p 0b110110#6 a readLvtLint1 writeLvtLint1 s

/-- LU.TIMER_INIT: R44, R58. -/
def execLuTimerInit (p : Nat) (a : Access) (s : State) : Res := localAccess p 0b111000#6 a readTimerInit writeTimerInit s

/-- LU.TIMER_CUR: R45, R49. -/
def execLuTimerCur (p : Nat) (a : Access) (s : State) : Res := localAccess p 0b111001#6 a readTimerCur writeTimerCur s

/-- LU.TIMER_DIV: R46. -/
def execLuTimerDiv (p : Nat) (a : Access) (s : State) : Res := localAccess p 0b111110#6 a readTimerDiv writeTimerDiv s

/-- LU.reserved_000000: R47, U1. -/
def execLuReserved000000 (p : Nat) (a : Access) (s : State) : Res :=
  localAccess p 0b000000#6 a readReserved (fun p _ => writeReserved p) s

/-- LU.reserved_000001: R47, U1. -/
def execLuReserved000001 (p : Nat) (a : Access) (s : State) : Res :=
  localAccess p 0b000001#6 a readReserved (fun p _ => writeReserved p) s

/-- LU.reserved_000100: R47, U1. -/
def execLuReserved000100 (p : Nat) (a : Access) (s : State) : Res :=
  localAccess p 0b000100#6 a readReserved (fun p _ => writeReserved p) s

/-- LU.reserved_000101: R47, U1. -/
def execLuReserved000101 (p : Nat) (a : Access) (s : State) : Res :=
  localAccess p 0b000101#6 a readReserved (fun p _ => writeReserved p) s

/-- LU.reserved_000110: R47, U1. -/
def execLuReserved000110 (p : Nat) (a : Access) (s : State) : Res :=
  localAccess p 0b000110#6 a readReserved (fun p _ => writeReserved p) s

/-- LU.reserved_000111: R47, U1. -/
def execLuReserved000111 (p : Nat) (a : Access) (s : State) : Res :=
  localAccess p 0b000111#6 a readReserved (fun p _ => writeReserved p) s

/-- LU.reserved_001001: R47, U1. -/
def execLuReserved001001 (p : Nat) (a : Access) (s : State) : Res :=
  localAccess p 0b001001#6 a readReserved (fun p _ => writeReserved p) s

/-- LU.reserved_001010: R47, U1. -/
def execLuReserved001010 (p : Nat) (a : Access) (s : State) : Res :=
  localAccess p 0b001010#6 a readReserved (fun p _ => writeReserved p) s

/-- LU.reserved_101000: R47, U1. -/
def execLuReserved101000 (p : Nat) (a : Access) (s : State) : Res :=
  localAccess p 0b101000#6 a readReserved (fun p _ => writeReserved p) s

/-- LU.reserved_101001: R47, U1. -/
def execLuReserved101001 (p : Nat) (a : Access) (s : State) : Res :=
  localAccess p 0b101001#6 a readReserved (fun p _ => writeReserved p) s

/-- LU.reserved_101010: R47, U1. -/
def execLuReserved101010 (p : Nat) (a : Access) (s : State) : Res :=
  localAccess p 0b101010#6 a readReserved (fun p _ => writeReserved p) s

/-- LU.reserved_101011: R47, U1. -/
def execLuReserved101011 (p : Nat) (a : Access) (s : State) : Res :=
  localAccess p 0b101011#6 a readReserved (fun p _ => writeReserved p) s

/-- LU.reserved_101100: R47, U1. -/
def execLuReserved101100 (p : Nat) (a : Access) (s : State) : Res :=
  localAccess p 0b101100#6 a readReserved (fun p _ => writeReserved p) s

/-- LU.reserved_101101: R47, U1. -/
def execLuReserved101101 (p : Nat) (a : Access) (s : State) : Res :=
  localAccess p 0b101101#6 a readReserved (fun p _ => writeReserved p) s

/-- LU.reserved_101110: R47, U1. -/
def execLuReserved101110 (p : Nat) (a : Access) (s : State) : Res :=
  localAccess p 0b101110#6 a readReserved (fun p _ => writeReserved p) s

/-- LU.reserved_101111: R47, U1. -/
def execLuReserved101111 (p : Nat) (a : Access) (s : State) : Res :=
  localAccess p 0b101111#6 a readReserved (fun p _ => writeReserved p) s

/-- LU.reserved_110011: R47, U1. -/
def execLuReserved110011 (p : Nat) (a : Access) (s : State) : Res :=
  localAccess p 0b110011#6 a readReserved (fun p _ => writeReserved p) s

/-- LU.reserved_110100: R47, U1. -/
def execLuReserved110100 (p : Nat) (a : Access) (s : State) : Res :=
  localAccess p 0b110100#6 a readReserved (fun p _ => writeReserved p) s

/-- LU.reserved_110111: R47, U1. -/
def execLuReserved110111 (p : Nat) (a : Access) (s : State) : Res :=
  localAccess p 0b110111#6 a readReserved (fun p _ => writeReserved p) s

/-- LU.reserved_111010: R47, U1. -/
def execLuReserved111010 (p : Nat) (a : Access) (s : State) : Res :=
  localAccess p 0b111010#6 a readReserved (fun p _ => writeReserved p) s

/-- LU.reserved_111011: R47, U1. -/
def execLuReserved111011 (p : Nat) (a : Access) (s : State) : Res :=
  localAccess p 0b111011#6 a readReserved (fun p _ => writeReserved p) s

/-- LU.reserved_111100: R47, U1. -/
def execLuReserved111100 (p : Nat) (a : Access) (s : State) : Res :=
  localAccess p 0b111100#6 a readReserved (fun p _ => writeReserved p) s

/-- LU.reserved_111101: R47, U1. -/
def execLuReserved111101 (p : Nat) (a : Access) (s : State) : Res :=
  localAccess p 0b111101#6 a readReserved (fun p _ => writeReserved p) s

/-- LU.reserved_111111: R47, U1. -/
def execLuReserved111111 (p : Nat) (a : Access) (s : State) : Res :=
  localAccess p 0b111111#6 a readReserved (fun p _ => writeReserved p) s

end Sys2Proof.Machine
end

