-- ==== Sys2Proof/Machine/MessageRows.lean ====
section
/-!
DEFINITION. The meanings of the delivery mode rows: a write of the ICR low word with the row's mode (R42, R48, R170).
-/

namespace Sys2Proof.Machine

/-- MSG.FIXED: R141, R170. -/
def execMsgFixed (p : Nat) (f : CommandFields) (s : State) : Res := commandAccess p (commandWord 0b000#3 f) s

/-- MSG.LOWEST_PRIORITY: R163, R170. -/
def execMsgLowestPriority (p : Nat) (f : CommandFields) (s : State) : Res := commandAccess p (commandWord 0b001#3 f) s

/-- MSG.reserved_010: the code names no mode (R128, U6). -/
def execMsgReserved010 (_ : Nat) (_ : CommandFields) (_ : State) : Res := .fault .icrCombination

/-- MSG.REMOTE_READ: R172, R170. -/
def execMsgRemoteRead (p : Nat) (f : CommandFields) (s : State) : Res := commandAccess p (commandWord 0b011#3 f) s

/-- MSG.NMI: R166, R170. -/
def execMsgNmi (p : Nat) (f : CommandFields) (s : State) : Res := commandAccess p (commandWord 0b100#3 f) s

/-- MSG.RESET: R167, R168, R170. -/
def execMsgReset (p : Nat) (f : CommandFields) (s : State) : Res := commandAccess p (commandWord 0b101#3 f) s

/-- MSG.reserved_110: the code names no mode (R128, U6). -/
def execMsgReserved110 (_ : Nat) (_ : CommandFields) (_ : State) : Res := .fault .icrCombination

/-- MSG.EXTINT: R148, R170. -/
def execMsgExtint (p : Nat) (f : CommandFields) (s : State) : Res := commandAccess p (commandWord 0b111#3 f) s

end Sys2Proof.Machine
end

