-- ==== Sys2Proof/Machine/Dispatch.lean ====
section
/-! DEFINITION. The meaning of every operation, one arm each. -/

namespace Sys2Proof.Machine

def exec (i : Instr) (s : State) : Host.Outcome State Fault Refusal :=
  match i with
  | .luId p a => Sys2Proof.Machine.execLuId p a s
  | .luVersion p a => Sys2Proof.Machine.execLuVersion p a s
  | .luTpr p a => Sys2Proof.Machine.execLuTpr p a s
  | .luEoi p a => Sys2Proof.Machine.execLuEoi p a s
  | .luRemote p a => Sys2Proof.Machine.execLuRemote p a s
  | .luLdr p a => Sys2Proof.Machine.execLuLdr p a s
  | .luDfr p a => Sys2Proof.Machine.execLuDfr p a s
  | .luSvr p a => Sys2Proof.Machine.execLuSvr p a s
  | .luIsr p k a => Sys2Proof.Machine.execLuIsr p k a s
  | .luTmr p k a => Sys2Proof.Machine.execLuTmr p k a s
  | .luIrr p k a => Sys2Proof.Machine.execLuIrr p k a s
  | .luIcrLow p a => Sys2Proof.Machine.execLuIcrLow p a s
  | .luIcrHigh p a => Sys2Proof.Machine.execLuIcrHigh p a s
  | .luLvtTimer p a => Sys2Proof.Machine.execLuLvtTimer p a s
  | .luLvtLint0 p a => Sys2Proof.Machine.execLuLvtLint0 p a s
  | .luLvtLint1 p a => Sys2Proof.Machine.execLuLvtLint1 p a s
  | .luTimerInit p a => Sys2Proof.Machine.execLuTimerInit p a s
  | .luTimerCur p a => Sys2Proof.Machine.execLuTimerCur p a s
  | .luTimerDiv p a => Sys2Proof.Machine.execLuTimerDiv p a s
  | .luReserved000000 p a => Sys2Proof.Machine.execLuReserved000000 p a s
  | .luReserved000001 p a => Sys2Proof.Machine.execLuReserved000001 p a s
  | .luReserved000100 p a => Sys2Proof.Machine.execLuReserved000100 p a s
  | .luReserved000101 p a => Sys2Proof.Machine.execLuReserved000101 p a s
  | .luReserved000110 p a => Sys2Proof.Machine.execLuReserved000110 p a s
  | .luReserved000111 p a => Sys2Proof.Machine.execLuReserved000111 p a s
  | .luReserved001001 p a => Sys2Proof.Machine.execLuReserved001001 p a s
  | .luReserved001010 p a => Sys2Proof.Machine.execLuReserved001010 p a s
  | .luReserved101000 p a => Sys2Proof.Machine.execLuReserved101000 p a s
  | .luReserved101001 p a => Sys2Proof.Machine.execLuReserved101001 p a s
  | .luReserved101010 p a => Sys2Proof.Machine.execLuReserved101010 p a s
  | .luReserved101011 p a => Sys2Proof.Machine.execLuReserved101011 p a s
  | .luReserved101100 p a => Sys2Proof.Machine.execLuReserved101100 p a s
  | .luReserved101101 p a => Sys2Proof.Machine.execLuReserved101101 p a s
  | .luReserved101110 p a => Sys2Proof.Machine.execLuReserved101110 p a s
  | .luReserved101111 p a => Sys2Proof.Machine.execLuReserved101111 p a s
  | .luReserved110011 p a => Sys2Proof.Machine.execLuReserved110011 p a s
  | .luReserved110100 p a => Sys2Proof.Machine.execLuReserved110100 p a s
  | .luReserved110111 p a => Sys2Proof.Machine.execLuReserved110111 p a s
  | .luReserved111010 p a => Sys2Proof.Machine.execLuReserved111010 p a s
  | .luReserved111011 p a => Sys2Proof.Machine.execLuReserved111011 p a s
  | .luReserved111100 p a => Sys2Proof.Machine.execLuReserved111100 p a s
  | .luReserved111101 p a => Sys2Proof.Machine.execLuReserved111101 p a s
  | .luReserved111111 p a => Sys2Proof.Machine.execLuReserved111111 p a s
  | .ioSelect p n a => Sys2Proof.Machine.execIoSelect p n a s
  | .ioWindow p n a => Sys2Proof.Machine.execIoWindow p n a s
  | .ioReservedDirect p n sel a => Sys2Proof.Machine.execIoReservedDirect p n sel a s
  | .ioIdxId p n a => Sys2Proof.Machine.execIoIdxId p n a s
  | .ioIdxVersion p n a => Sys2Proof.Machine.execIoIdxVersion p n a s
  | .ioIdxRtLow0To7 p n k a => Sys2Proof.Machine.execIoIdxRtLow0To7 p n k a s
  | .ioIdxRtHigh0To7 p n k a => Sys2Proof.Machine.execIoIdxRtHigh0To7 p n k a s
  | .ioIdxRtLow8To15 p n k a => Sys2Proof.Machine.execIoIdxRtLow8To15 p n k a s
  | .ioIdxRtHigh8To15 p n k a => Sys2Proof.Machine.execIoIdxRtHigh8To15 p n k a s
  | .ioIdxReserved p n idx a => Sys2Proof.Machine.execIoIdxReserved p n idx a s
  | .msgFixed p f => Sys2Proof.Machine.execMsgFixed p f s
  | .msgLowestPriority p f => Sys2Proof.Machine.execMsgLowestPriority p f s
  | .msgReserved010 p f => Sys2Proof.Machine.execMsgReserved010 p f s
  | .msgRemoteRead p f => Sys2Proof.Machine.execMsgRemoteRead p f s
  | .msgNmi p f => Sys2Proof.Machine.execMsgNmi p f s
  | .msgReset p f => Sys2Proof.Machine.execMsgReset p f s
  | .msgReserved110 p f => Sys2Proof.Machine.execMsgReserved110 p f s
  | .msgExtint p f => Sys2Proof.Machine.execMsgExtint p f s
  | .jtagExtest k tdi => Sys2Proof.Machine.execJtagExtest k tdi s
  | .jtagSamplePreload k tdi => Sys2Proof.Machine.execJtagSamplePreload k tdi s
  | .jtagIdcode k tdi => Sys2Proof.Machine.execJtagIdcode k tdi s
  | .jtagReserved1001 k tdi => Sys2Proof.Machine.execJtagReserved1001 k tdi s
  | .jtagBypass k tdi => Sys2Proof.Machine.execJtagBypass k tdi s
  | .jtagUnlisted0011 k tdi => Sys2Proof.Machine.execJtagUnlisted0011 k tdi s
  | .jtagUnlisted0100 k tdi => Sys2Proof.Machine.execJtagUnlisted0100 k tdi s
  | .jtagUnlisted0101 k tdi => Sys2Proof.Machine.execJtagUnlisted0101 k tdi s
  | .jtagUnlisted0110 k tdi => Sys2Proof.Machine.execJtagUnlisted0110 k tdi s
  | .jtagUnlisted0111 k tdi => Sys2Proof.Machine.execJtagUnlisted0111 k tdi s
  | .jtagUnlisted1000 k tdi => Sys2Proof.Machine.execJtagUnlisted1000 k tdi s
  | .jtagUnlisted1010 k tdi => Sys2Proof.Machine.execJtagUnlisted1010 k tdi s
  | .jtagUnlisted1011 k tdi => Sys2Proof.Machine.execJtagUnlisted1011 k tdi s
  | .jtagUnlisted1100 k tdi => Sys2Proof.Machine.execJtagUnlisted1100 k tdi s
  | .jtagUnlisted1101 k tdi => Sys2Proof.Machine.execJtagUnlisted1101 k tdi s
  | .jtagUnlisted1110 k tdi => Sys2Proof.Machine.execJtagUnlisted1110 k tdi s
  | .fdcPerpendicularMode pr => Sys2Proof.Machine.execFdcPerpendicularMode pr s
  | .fdcDumpregResult8 => Sys2Proof.Machine.execFdcDumpregResult8 s

end Sys2Proof.Machine
end

