-- ==== Sys2Proof/Machine/Icc.lean ====
section
/-!
DEFINITION. The ICC bus (R160 to R168, R172, R174): arbitration, the set of targets, and the delivery of the message the
bus carries.
-/

namespace Sys2Proof.Machine

/-! ### Arbitration -/

/-- The package a message comes from. -/
def sourcePackage (m : Message) : Nat :=
  match m.source with
  | .local p => p
  | .io n _ => n

/-- R368(b): the sender of `m` must be reset before any functional use. -/
def senderUntrusted (m : Message) (s : State) : Bool := s.packages[sourcePackage m]?.any fun k => k.needsReset

/-- R160: the `i`-th waiting message wins the bus, if the bus is free: which sender wins is not determined, and the rules say
nothing of the order of two messages of one sender; the schedule says (DESIGN CHOICE, log 15). A sender that must be reset
takes no part (R368(b)). -/
def arbitrate (i : Nat) (s : State) : Res :=
  match s.icc.carried, s.icc.queue[i]? with
  | none, some m =>
    if senderUntrusted m s then .refused .needsHardwareReset
    else .next { s with icc := { queue := s.icc.queue.eraseIdx i, carried := some m } }
  | _, _ => .next s

/-! ### Unique IDs (R370) -/

/-- The source is a pin of I/O unit `n`. -/
def fromIo (n : Nat) (src : Source) : Bool :=
  match src with
  | .io m _ => m == n
  | .local _ => false

/-- The IDs package `q` brings to the bus beside the sender `src` of the carried message, where the sources listed have a message
waiting: a local unit uses the bus if it is enabled or waits to send, an I/O unit if an entry is unmasked or it waits to send
(R370, log 18). -/
def busIds (src : Source) (waiting : List Source) (q : Nat) (k : Package) : List Byte :=
  (if ((k.hasCpu && !k.resetPin && enabled k.lu) || waiting.contains (.local q)) && src != .local q then
      [unitIdOf k.lu.id] else []) ++
    (if (k.iou.rt.toList.any (fun e => !maskedOf (lowWord e)) || waiting.any (fromIo q)) && !fromIo q src then
      [unitIdOf k.iou.id] else [])

/-- Every ID on the bus while `m` is carried, its sender's first. -/
def idsInUse (m : Message) (s : State) : List Byte :=
  m.srcId :: (s.packages.mapIdx fun q k => busIds m.source (s.icc.queue.map Message.source) q k).flatten

/-! ### Targets (R161, R162) -/

/-- The packages whose local unit can receive `m` (R161). -/
def receivers (m : Message) (s : State) : List (Nat × Package) :=
  (s.packages.mapIdx fun q k => (q, k)).filter fun x => receives m.mode x.2

/-- R162: `Targets(m)`. -/
def targets (m : Message) (s : State) : List (Nat × Package) :=
  (receivers m s).filter fun x => addresses m x.1 x.2.lu

/-- A Logical destination must be matched (U12). -/
def needsFormat (m : Message) : Bool := m.destMode == .logical && m.shorthand == .none

/-! ### Lowest Priority (R163, R381) -/

/-- The least of a list of numbers, from `b`. -/
def leastFrom (b : Nat) (l : List Nat) : Nat := l.foldl min b

/-- The units that may win: the focus units if there are any, else those of least priority. -/
def candidates (v : Byte) (ts : List (Nat × Package)) : List (Nat × Package) :=
  let focus := ts.filter fun x => isFocus v x.2.lu
  if focus.isEmpty then
    ts.filter fun x => arbitrationPriority x.2.lu == leastFrom 16 (ts.map fun y => arbitrationPriority y.2.lu)
  else focus

/-- Whether the units listed may all win together: one unit, or units tied by equal Arb IDs (R381). -/
def mayWin (l : List (Nat × Package)) : Bool :=
  match l with
  | [] => false
  | x :: r => r.all fun y => y.2.lu.arbId == x.2.lu.arbId

/-- `Choose(T, m)`: the candidates the schedule's `choice` names where they may win, else the first candidate. -/
def chosen (v : Byte) (choice : List Nat) (ts : List (Nat × Package)) : List Nat :=
  let c := candidates v ts
  let w := c.filter fun x => choice.contains x.1
  if mayWin w then w.map Prod.fst else (c.take 1).map Prod.fst

/-! ### Delivery (R160) -/

/-- `f` of the local unit of every package listed. -/
def eachLocal (f : LocalUnit → LocalUnit) (qs : List Nat) (s : State) : State :=
  qs.foldl (fun s q => modifyLocal s q f) s

/-- R168: every local unit that is not held by RESET sets its Arb ID to its unit ID. -/
def synchroniseArbIds (s : State) : State :=
  { s with
    packages := s.packages.map fun k =>
      if k.resetPin then k else { k with lu := { k.lu with arbId := unitIdOf k.lu.id } } }

/-- The units that accept a Fixed or Lowest Priority message: a level deassert goes to every target (D20). -/
def acceptors (m : Message) (choice : List Nat) (ts : List (Nat × Package)) : List Nat :=
  if m.mode = .lowestPriority ∧ (m.trigger = .edge ∨ m.level = true) then chosen m.vector choice ts
  else ts.map Prod.fst

/-- Some package's local unit is the one `m` addresses, whether or not it can receive it. -/
def addressesUnit (m : Message) (s : State) : Bool :=
  (s.packages.mapIdx fun q k => k.hasCpu && addresses m q k.lu).contains true

/-- R172: the outcome of a Remote Read for its sender `p`. No unit has the ID: the status is invalid. The unit that has it cannot
receive, being disabled or held by RESET: carried without an effect, as R161 says of a disabled one, so that the status stays
in progress (DEDUCED, log 22). -/
def remoteRead (m : Message) (ts : List (Nat × Package)) (s : State) : State :=
  match m.source, ts with
  | .local p, (_, k) :: _ => storeRemote s p (localRead (remoteSelector m.vector) k.lu)
  | .local p, [] =>
    if addressesUnit m s then s else modifyLocal s p fun u => { u with icrLow := setReadStatus u.icrLow readInvalid }
  | .io _ _, _ => s

/-- The effect of `m` on its targets (R160). -/
def deliverTo (m : Message) (choice : List Nat) (ts : List (Nat × Package)) (s : State) : State :=
  let qs := ts.map Prod.fst
  match m.mode with
  | .fixed => eachLocal (acceptFixed m.vector m.trigger m.level) (acceptors m choice ts) s
  | .lowestPriority => eachLocal (acceptFixed m.vector m.trigger m.level) (acceptors m choice ts) s
  | .extInt => eachLocal acceptExtInt qs s
  | .nmi => eachLocal (acceptNmi m.level) qs s
  | .reset => if m.level then qs.foldl resetByMessage s else synchroniseArbIds (qs.foldl releaseByMessage s)
  | .remoteRead => remoteRead m ts s

/-- R210: whether a level message of a redirection entry has been accepted by a local unit. -/
def levelAccepted (m : Message) (ts : List (Nat × Package)) : Bool :=
  (m.mode == .fixed || m.mode == .lowestPriority) && m.trigger == .level && decide (16 ≤ m.vector.toNat) && !ts.isEmpty

/-- R174, R210: the message has been carried: the sender's delivery state returns to Idle (for a redirection entry, unless
another of its messages waits), and a redirection entry's remote IRR follows an accepted level message. -/
def acknowledgeSender (m : Message) (ts : List (Nat × Package)) (s : State) : State :=
  match m.source with
  | .local p => modifyLocal s p fun u => { u with icrLow := setBit u.icrLow deliveryStateBit false }
  | .io n k =>
    let s' := modifyIo s n (setEntryBit k deliveryStateBit (s.icc.queue.any fun x => x.source == m.source))
    if levelAccepted m ts then modifyIo s' n (setEntryBit k remoteIrrBit m.level) else s'

/-- R368(b): carrying `m` would be a functional step of a package that must be reset: of its sender, of a target, or, for a
Reset deassert, of any local unit whose Arb ID it sets (R168). -/
def untrusted (m : Message) (ts : List (Nat × Package)) (s : State) : Bool :=
  senderUntrusted m s || ts.any (fun x => x.2.needsReset) ||
    (m.mode == .reset && !m.level && s.packages.any fun k => !k.resetPin && k.needsReset)

/-- R160: the message on the bus is delivered; `choice` decides where R163 and R381 leave a choice. Two units with one ID
(U13), a format that is not flat (U12) and a package that must be reset first (U16) stop the run. -/
def deliverCarried (choice : List Nat) (s : State) : Res :=
  match s.icc.carried with
  | none => .next s
  | some m =>
    if decide (idsInUse m s).Nodup then
      if needsFormat m && (receivers m s).any (fun x => !Config.dfrIsFlat x.2.lu.dfr) then .fault .dfrFormat
      else
        let ts := targets m s
        if untrusted m ts s then .refused .needsHardwareReset
        else
          .next (acknowledgeSender m ts (deliverTo m choice ts { s with icc := { s.icc with carried := none } }))
    else .refused .duplicateUnitId

end Sys2Proof.Machine
end

