-- ==== Sys2Proof/Machine/Platform.lean ====
section
/-!
DEFINITION. The package's own pins: hardware reset and its release (R360, R366), the ID latch (R362), the other pins of
the scan path; the two settings of a processor that the spec names (R22, R90); and a step of a processor's own (R20).
-/

namespace Sys2Proof.Machine

/-- R360: RESET of package `k` is sampled asserted: the local unit and the I/O unit reset, their messages are lost, the
address pins are latched, and the mark of R368(b) is lifted, unless extest is still current, which cuts the outputs of the
package off (R245; DEDUCED, log 31). -/
def resetAssert (k : Nat) (s : State) : Res :=
  withPackage s k fun _ =>
    .next (keepMessages
      (modifyPackage s k fun pk =>
        { pk with
          lu := hardwareResetLocal pk.addrPins pk.lu
          iou := clearedIo pk.iou
          resetPin := true
          needsReset := scanDriven pk.tap })
      fun src => match src with | .local p => p != k | .io n _ => n != k)

/-- R366: RESET of package `k` falls: the unit drops PRST and ExtINTA, and its processor starts from its reset state when the
pin PRST falls. -/
def resetRelease (k : Nat) (s : State) : Res :=
  withPackage s k fun pk =>
    if pk.resetPin then
      .next (modifyPackage s k fun pk =>
        startedOnFall pk { pk with lu := releasedLocal pk.lu, resetPin := false })
    else .next s

/-- R362: the address pins take a level; while RESET is asserted every sample is stored in the unit ID. -/
def addressPins (k : Nat) (v : Byte) (s : State) : Res :=
  withPackage s k fun _ =>
    .next (modifyPackage s k fun pk =>
      if pk.resetPin then { pk with addrPins := v, lu := { pk.lu with id := idWord v } } else { pk with addrPins := v })

/-- R340, D24: the platform's input `first_reset` takes a level (log 27). -/
def setFirstReset (p : Nat) (b : Bool) (s : State) : Res :=
  withPackage s p fun _ => .next (modifyPackage s p fun k => { k with firstReset := b })

/-- R22: the processor sets or clears its interrupt mask; in reset it executes nothing (R24). -/
def setIntrEnabled (p : Nat) (b : Bool) (s : State) : Res :=
  withProcessor s p fun k => if cpuHeld k then .next s else .next (modifyCpu s p fun c => { c with intrEnabled := b })

/-- R90: software maps the register page. -/
def setPageUncached (p : Nat) (b : Bool) (s : State) : Res :=
  withProcessor s p fun k => if cpuHeld k then .next s else .next (modifyCpu s p fun c => { c with pageUncached := b })

/-- R310: the vectors an operating system may give to a source at this platform: 16 to 255, and none the processor
reserves. No operation depends on it. -/
def usableVector (v : Byte) : Bool := decide (16 ≤ v.toNat) && !Config.cpuReservedVector v

/-! ### A step of the processor's own (R20, D1) -/

/-- What a step of the processor of package `k` may depend on; `fresh` makes the step a relation. -/
def cpuSample (k : Package) (fresh : Nat) : CpuSample where
  core         := k.cpu.core
  int          := cpuInt k
  nmi          := cpuNmi k
  data         := k.cpu.data
  vector       := k.cpu.vector
  intrEnabled  := k.cpu.intrEnabled
  pageUncached := k.cpu.pageUncached
  posted       := k.cpu.wbuf.length
  firstReset   := k.firstReset
  startAddr    := k.cpu.startAddr
  choice       := fresh

/-- What processor `p` issues, as an entry of the schedule. -/
def actionInput (p : Nat) (a : CpuAction) : Input :=
  match a with
  | .cycle sp width access addr => .op ⟨spacePort sp, p, 0, width, access, addr, []⟩
  | .acknowledge => .event (.intaFirst p)
  | .maskInterrupts b => .event (.setIntrEnabled p b)
  | .mapPage b => .event (.setPageUncached p b)

/-- `s` with what processor `p` issues next in the schedule. -/
def issue (p : Nat) (a : Option CpuAction) (s : State) : State :=
  match a with
  | some a => { s with input := actionInput p a :: s.input }
  | none => s

/-- R20, R24: processor `p` takes a step of `CpuCore`: its own state changes, and what it issues happens next. In reset, and
between the two cycles of an acknowledge, it takes none. -/
def cpuStep (p : Nat) (s : State) : Res :=
  withProcessor s p fun k =>
    if cpuHeld k then .next s
    else
      let x := cpuSample k s.fresh
      .next (issue p (Config.cpuIssues x)
        (modifyCpu { s with fresh := s.fresh + 1 } p fun c => { c with core := Config.cpuNext x }))

end Sys2Proof.Machine
end

