-- ==== Sys2Proof/Machine/Events.lean ====
section
/-!
DEFINITION. What each event of the schedule does, and how an operation is put at its head.
-/

namespace Sys2Proof.Machine

/-- One event (the docstrings of `Event` cite the rules). -/
def runEvent (e : Event) (s : State) : Res :=
  match e with
  | .resetAssert k => resetAssert k s
  | .resetRelease k => resetRelease k s
  | .addressPins k v => addressPins k v s
  | .firstReset k b => setFirstReset k b s
  | .lintPin k j b => lintPin k j b s
  | .lintSample k j => lintSample k j s
  | .intPin k i b => intPin k i b s
  | .ioSample k => ioSample k s
  | .otherPin k c b => withPackage s k fun _ => .next (modifyPackage s k (setOtherPin c b))
  | .timerTick k => timerTick k s
  | .arbitrate i => arbitrate i s
  | .deliver choice => deliverCarried choice s
  | .drain p => drainOne p s
  | .cpuStep p => cpuStep p s
  | .storeSeen i => .next (storeSeen i s)
  | .intaFirst p => intaFirst p s
  | .intaSecond p ext => intaSecond p ext s
  | .setIntrEnabled p b => setIntrEnabled p b s
  | .setPageUncached p b => setPageUncached p b s
  | .tap k e => tapEvent k e s
  | .fifoWrite b => fifoWrite b s
  | .fdcSoftwareReset => .next (fdcSoftwareReset s)
  | .fdcHardwareReset => .next (fdcHardwareReset s)
  | .fdcRate r => .next { s with fdc := { s.fdc with rate := r } }
  | .fdcPrecomp ns => .next { s with fdc := { s.fdc with precomp := ns } }
  | .fdcTransfer _ d => fdcTransfer d s

/-- The machine with an operation of the table, in its encoded form, as its next input (log 1, log 3). -/
def scheduleWord (nbits w : Nat) (s : State) : State := { s with input := .op (tableCycle nbits w) :: s.input }

/-- The machine with its first input consumed. -/
def consumeInput (s : State) : State := { s with input := s.input.tail }

end Sys2Proof.Machine
end

