-- ==== Sys2Proof/Machine/Step.lean ====
section
/-!
DEFINITION. One step: the first input of the schedule happens (R231, R390: agents act by interleaving). With an empty
schedule nothing happens.
-/

namespace Sys2Proof.Machine

/-- A cycle at a port: the operation it stands for, or what happens where it stands for none. -/
def runCycle (c : Cycle) (s : State) : Host.Outcome State Fault Refusal :=
  match decode s.platform c with
  | .ok i => exec i s
  | .error e => otherCycle e c s

/-- One step of the machine. -/
def step (s : State) : Host.Outcome State Fault Refusal :=
  match s.input with
  | [] => .next s
  | .op c :: _ => runCycle c (consumeInput s)
  | .event e :: _ => runEvent e (consumeInput s)

/-- `s` with the operation whose bits are `w` where the step fetches its next one: at the head of the schedule. -/
def State.withFetchWord (s : State) (nbits w : Nat) : State := scheduleWord nbits w s

end Sys2Proof.Machine
end

