-- ==== Sys2Proof/Safety.lean ====
section
/-!
DEFINITION. What claims are stated in terms of: a step that answers a next state, and the invariant of the machine, part by
part.
-/

namespace Sys2Proof.Machine

/-- The outcome is a next state. -/
def Continues (r : Res) : Prop := ∃ t, r = .next t

/-- R39, R40, R41: bits 0 to 15 of the three vector registers are clear. -/
def LowVectorsClear (r : VectorSet) : Prop := r.extractLsb' 0 16 = 0#16

/-- R48: the reserved bits of the registers are 0. -/
structure LocalUnit.ReservedClear (u : LocalUnit) : Prop where
  id : u.id &&& ~~~idMask = 0#32
  tpr : u.tpr &&& ~~~tprMask = 0#32
  svr : u.svr &&& ~~~svrMask = 0#32
  icrLow : u.icrLow &&& ~~~(icrMask ||| icrReadOnly) = 0#32
  lvtTimer : u.lvtTimer &&& ~~~(lvtTimerMask ||| timerReadOnly) = 0#32
  lvtLint0 : u.lvtLint0 &&& ~~~(lvtLintMask ||| entryReadOnly) = 0#32
  lvtLint1 : u.lvtLint1 &&& ~~~(lvtLintMask ||| entryReadOnly) = 0#32

/-- The invariant of a local unit. -/
structure LocalUnit.Inv (u : LocalUnit) : Prop where
  isr : LowVectorsClear u.isr
  tmr : LowVectorsClear u.tmr
  irr : LowVectorsClear u.irr
  reserved : u.ReservedClear
  /-- R52: COMMIT is None exactly when PINT is not asserted. -/
  commit : u.commit = .none ↔ u.pint ≠ .high
  /-- R53, R367: PINT is tri-stated exactly until the unit is enabled. -/
  pint : u.pint = .z ↔ enabled u = false
  /-- R53, R166, R367: PNMI is tri-stated until the unit is enabled and then follows NMI_OUT. -/
  pnmi : u.pnmi = if enabled u then driven u.nmiOut else .z
  /-- R52, R146: while PINT is asserted, ExtINTA shows which kind of request it is for. -/
  external : u.commit = .external → u.extInta = true
  internal : u.commit = .internal → u.extInta = false
  /-- R54: the IRR is frozen between the two cycles of an acknowledge only. -/
  frozen : u.irrFrozen = true → u.intaPhase = .afterFirst
  /-- R55, R320: the vector chosen at the first cycle is one the unit delivers. -/
  genuine : u.intaGenuine = true → 16 ≤ u.intaVector.toNat

/-- R48, R60: the reserved bits of an I/O unit's registers are 0. -/
structure IoUnit.Inv (u : IoUnit) : Prop where
  select : u.select &&& ~~~0xFF#32 = 0#32
  id : u.id &&& ~~~idMask = 0#32
  entries : ∀ k : Fin 16, lowWord (u.rt.get k) &&& ~~~(rtLowMask ||| entryReadOnly) = 0#32

/-- R71, R233, R256: the current instruction has a row with an effect, and in Test-Logic-Reset it is idcode. -/
structure Tap.Inv (t : Tap) : Prop where
  listed : listedOpcode t.ir = true
  idle : t.state = .testLogicReset → t.ir = idcodeOpcode

/-- R23: the write buffer holds aligned writes to memory-mapped 82489DX registers of the platform, no more than its depth. -/
def BufferOk (pf : Platform) (b : List (Word × Word)) : Prop :=
  b.length ≤ Config.wbufDepth ∧ ∀ w ∈ b, addressTarget pf .memory w.1 ≠ .outside ∧ aligned w.1 = true

/-- The invariant of a package. -/
structure Package.Inv (pf : Platform) (k : Package) : Prop where
  lu : k.lu.Inv
  iou : k.iou.Inv
  tap : k.tap.Inv
  wbuf : BufferOk pf k.cpu.wbuf
  /-- R81: memory as the processor sees it is in its canonical form. -/
  view : Memory.wf k.view = true
  /-- R360: while RESET is asserted the unit drives PRST. -/
  held : k.resetPin = true → k.lu.prst = true
  /-- R167: while the unit drives PRST it is itself reset, so that it is disabled. -/
  reset : k.lu.prst = true → enabled k.lu = false
  /-- R368(b), R245: while extest is current a reset is due. -/
  due : k.tap.ir = 0b0000#4 → k.needsReset = true
  /-- D11: with nothing committed ExtINTA is 0, outside a hardware reset. -/
  extInta : k.resetPin = false → k.lu.commit = .none → k.lu.extInta = false

/-- The invariant of the machine. -/
structure State.Inv (s : State) : Prop where
  packages : ∀ (p : Nat) (k : Package), s.packages[p]? = some k → k.Inv s.platform

/-- R174: the delivery state of a local unit is not Idle exactly while one message of its own waits or is carried. -/
structure State.BusInv (s : State) : Prop where
  pending : ∀ (p : Nat) (k : Package), s.packages[p]? = some k →
    (sendPending k.lu.icrLow = true ↔ ∃ m ∈ s.icc.carried.toList ++ s.icc.queue, m.source = .local p)
  single : ∀ p : Nat, ((s.icc.carried.toList ++ s.icc.queue).filter fun m => m.source == .local p).length ≤ 1

/-! ### Conditions and results that statements share -/

/-- `s` with package `p` at `k`. -/
def State.putPackage (s : State) (p : Nat) (k : Package) : State := { s with packages := s.packages.set p k }

/-- Processor `p`, of package `k`, can reach a page at `l`: the package has a processor, which is not held, and a page in memory
space is uncached (R9, R24, R90). -/
structure ReachesPage (s : State) (p : Nat) (k : Package) (l : Location) : Prop where
  present : s.packages[p]? = some k
  wired : k.hasCpu = true
  running : cpuHeld k = false
  uncached : l.space = .memory → k.cpu.pageUncached = true

/-- Processor `p`, of package `k`, can use its local unit: it reaches its page, and the unit is neither in reset nor in need of one
(R360, R368). -/
structure BusReady (s : State) (p : Nat) (k : Package) : Prop extends ReachesPage s p k s.platform.lu where
  usable : k.needsReset = false
  released : unitHeld k = false

/-- Processor `p`, of package `k`, can reach the page of I/O unit `n`; its own package may be in need of a reset. -/
abbrev IoBusReady (s : State) (p n : Nat) (k : Package) : Prop := ReachesPage s p k (ioLocation s.platform n)

/-- I/O unit `n`, of package `k`, can be reached: the platform gives it an address (R9). -/
structure IoReady (s : State) (n : Nat) (k : Package) : Prop where
  present : s.packages[n]? = some k
  mapped : n < s.platform.ious.length
  usable : k.needsReset = false
  released : k.resetPin = false

/-- `s` after processor `p`, of package `k`, has received `w` from a bus cycle. -/
def State.received (s : State) (p : Nat) (k : Package) (w : Word) : State :=
  s.putPackage p { k with cpu := { k.cpu with data := w } }

/-- `s` with the local unit of package `p`, which was `k`, at `u`. -/
def State.putLocal (s : State) (p : Nat) (k : Package) (u : LocalUnit) : State := s.putPackage p { k with lu := u }

/-- `s` with the I/O unit of package `n`, which was `k`, at `u`. -/
def State.putIo (s : State) (n : Nat) (k : Package) (u : IoUnit) : State := s.putPackage n { k with iou := u }

/-- The rows of the reserved selectors of a local unit (R47). -/
def reservedLocalRows : List (Nat → Access → Instr) :=
  [.luReserved000000, .luReserved000001, .luReserved000100, .luReserved000101, .luReserved000110, .luReserved000111,
   .luReserved001001, .luReserved001010, .luReserved101000, .luReserved101001, .luReserved101010, .luReserved101011,
   .luReserved101100, .luReserved101101, .luReserved101110, .luReserved101111, .luReserved110011, .luReserved110100,
   .luReserved110111, .luReserved111010, .luReserved111011, .luReserved111100, .luReserved111101, .luReserved111111]

/-- The message a command row with operand fields `f` sends from the unit of package `p`, `k` (R42, R170, R171 item 7). -/
def rowMessage (p : Nat) (k : Package) (mode : DeliveryMode) (f : CommandFields) : Message where
  source      := .local p
  srcId       := k.lu.id.extractLsb' 24 8
  vector      := f.vector
  mode        := mode
  destMode    := if f.logical then .logical else .physical
  level       := f.level
  trigger     := if f.triggerLevel then .level else .edge
  destination :=
    if f.shorthand = 0b00#2 then
      (if f.logical then k.lu.icrHigh else (k.lu.icrHigh.extractLsb' 24 8).setWidth 32)
    else 0xFFFFFFFF#32
  shorthand   :=
    if f.shorthand = 0b00#2 then .none
    else if f.shorthand = 0b01#2 then .self
    else if f.shorthand = 0b10#2 then .allInclSelf
    else .allExclSelf

/-- The ICR low word a command row leaves, with the read-only fields `delivery_state` at `busy` and `remote_read_status` at
`status` (R48, R170). -/
def rowWord (code : BitVec 3) (f : CommandFields) (busy : Bool) (status : BitVec 2) : Word :=
  0#12 ++ (f.shorthand ++ (status ++ (BitVec.ofBool f.triggerLevel ++ (BitVec.ofBool f.level ++ (0#1 ++
    (BitVec.ofBool busy ++ (BitVec.ofBool f.logical ++ (code ++ f.vector))))))))

/-- The state after a command row has handed its message to the bus (R170). -/
def State.commandSent (s : State) (p : Nat) (k : Package) (mode : DeliveryMode) (code : BitVec 3) (status : BitVec 2)
    (f : CommandFields) : State :=
  { s.putLocal p k { k.lu with icrLow := rowWord code f true status } with
    icc := { s.icc with queue := s.icc.queue ++ [rowMessage p k mode f] } }

/-- `v` is the highest vector of a 256-bit register. -/
def IsHighest (r : VectorSet) (v : Byte) : Prop := hasVector r v = true ∧ ∀ w : Byte, hasVector r w = true → w.toNat ≤ v.toNat

/-- R144, R146: `v` may be dispensed: it is the highest pending vector, above the task priority and above the level of every
vector in service. -/
def MayDispense (u : LocalUnit) (v : Byte) : Prop :=
  IsHighest u.irr v ∧ (u.tpr.extractLsb' 4 4).toNat < v.toNat / 16 ∧ 0 < v.toNat / 16 ∧
    ∀ w : Byte, hasVector u.isr w = true → w.toNat / 16 < v.toNat / 16

/-- R162: `m` is addressed to the local unit of package `q`, `k`, whether or not that can receive it. -/
def isNamed (m : Message) (q : Nat) (k : Package) : Bool :=
  match m.shorthand with
  | .allInclSelf => true
  | .allExclSelf => !(m.source == .local q)
  | .self => false
  | .none =>
    match m.destMode with
    | .physical =>
      m.destination.extractLsb' 0 8 == 0xFF#8 || k.lu.id.extractLsb' 24 8 == m.destination.extractLsb' 0 8
    | .logical => (k.lu.ldr &&& m.destination) != 0#32

/-- R161, R162: the local unit of package `q`, `k`, is in `Targets(m)`. -/
def isTarget (m : Message) (q : Nat) (k : Package) : Bool :=
  k.hasCpu && !k.resetPin && (k.lu.svr.getLsbD 8 || m.mode == .reset) && isNamed m q k

/-- Package `q` of `s` is in `Targets(m)`. -/
def targetAt (s : State) (m : Message) (q : Nat) : Bool :=
  match s.packages[q]? with
  | some k => isTarget m q k
  | none => false

/-- What a target does with a message of mode Fixed, Lowest Priority, ExtINT or NMI (R160): an NMI drives NMI_OUT with the
level, and PNMI with it if the unit is enabled (R166); an ExtINT is pending from then on (R148). -/
def accepted (m : Message) (u : LocalUnit) : LocalUnit :=
  match m.mode with
  | .extInt => dispense { u with extIntPending := true }
  | .nmi =>
    { u with
      nmiOut := m.level
      pnmi := if u.svr.getLsbD 8 then (if m.level then .high else .low) else u.pnmi }
  | _ => acceptFixed m.vector m.trigger m.level u

/-- R210: the entry `e` of an I/O unit after its message `m` has been carried: its delivery state (bit 12) says whether another
message of the same pin waits, and its remote IRR (bit 14) follows the level of a level-triggered Fixed or Lowest Priority
message that a local unit has accepted. -/
def entryAfter (s : State) (m : Message) (e : Word64) : Word64 :=
  let e := if s.icc.queue.any (fun x => x.source == m.source) then e ||| 0x1000#64 else e &&& ~~~0x1000#64
  if (m.mode = .fixed ∨ m.mode = .lowestPriority) ∧ m.trigger = .level ∧ 16 ≤ m.vector.toNat ∧
      (List.range s.packages.length).any (targetAt s m) then
    (if m.level then e ||| 0x4000#64 else e &&& ~~~0x4000#64)
  else e

/-- R174, R210: package `q`, `k`, after the message `m` has been carried in `s`: the delivery state of a local unit that sent
it is Idle, and the entry of an I/O unit that sent it is as `entryAfter` says. -/
def senderDone (s : State) (m : Message) (q : Nat) (k : Package) : Package :=
  match m.source with
  | .local p => if p = q then { k with lu := { k.lu with icrLow := k.lu.icrLow &&& 0xFFFFEFFF#32 } } else k
  | .io n j =>
    if n = q then { k with iou := { k.iou with rt := k.iou.rt.set j.val (entryAfter s m (k.iou.rt.get j)) j.isLt } } else k

/-- `s` after `m` has been carried: the local unit of package `q` becomes `f q k` of it, and what the sender keeps of the
message follows; nothing else changes but the bus, which is free. -/
def State.carriedOut (s : State) (m : Message) (f : Nat → Package → LocalUnit) : State :=
  { s with
    packages := s.packages.mapIdx fun q k => senderDone s m q { k with lu := f q k }
    icc := { s.icc with carried := none } }

/-- R37, R161: the Destination Format of every local unit that could receive `m` is flat. -/
def receiversFlat (s : State) (m : Message) : Bool :=
  s.packages.all fun k =>
    !(k.hasCpu && !k.resetPin && (k.lu.svr.getLsbD 8 || m.mode == .reset)) || Config.dfrIsFlat k.lu.dfr

/-- R368(b): no package that `m` is a functional step of must be reset first: not its sender's, not a target's, and for a Reset
deassert not that of any unit whose Arb ID it sets (R168; not one held by RESET, log 41). -/
def Trusted (s : State) (m : Message) : Prop :=
  ∀ (q : Nat) (k : Package), s.packages[q]? = some k →
    m.source = .local q ∨ (∃ j, m.source = .io q j) ∨ isTarget m q k = true ∨
      (m.mode = .reset ∧ m.level = false ∧ k.resetPin = false) →
    k.needsReset = false

/-- The message `m` is on the bus, every unit on the bus has its own ID (R370), no package it acts on or comes from needs a reset
(R368), and no Destination Format has to be consulted or every one that has is flat (R37, U12). -/
structure Deliverable (s : State) (m : Message) : Prop where
  carried : s.icc.carried = some m
  unique : (idsInUse m s).Nodup
  usable : Trusted s m
  format : m.destMode = .physical ∨ m.shorthand ≠ .none ∨ receiversFlat s m = true

/-- R163: `n` is the priority of `u` that lowest priority delivery compares: the greatest of the task priority and the levels of
the vectors in service or pending. -/
def ComparedPriority (u : LocalUnit) (n : Nat) : Prop :=
  ((u.tpr.extractLsb' 4 4).toNat = n ∨
    ∃ v : Byte, (hasVector u.isr v = true ∨ hasVector u.irr v = true) ∧ v.toNat / 16 = n) ∧
  (u.tpr.extractLsb' 4 4).toNat ≤ n ∧
  ∀ v : Byte, hasVector u.isr v = true ∨ hasVector u.irr v = true → v.toNat / 16 ≤ n

/-- R366: a processor that has just left reset: at the reset vector with interrupts masked and an empty write buffer; its page is
uncached (log 14), and it has received nothing (log 7). -/
def restarted : Cpu := ⟨Config.cpuResetState, false, [], Config.resetVector, true, 0#32, none⟩

/-- R24: the processor of package `k` after `k` has become `k'` by a change at its TAP: started if its RESET input fell. -/
def cpuAfter (k k' : Package) : Cpu := if cpuReset k && !cpuReset k' then restarted else k.cpu

/-! ### Inputs of a local unit -/

/-- The entry of LINTIN`j`. -/
def LocalUnit.entryAt (u : LocalUnit) (j : Lint) : Word :=
  match j with
  | .lint0 => u.lvtLint0
  | .lint1 => u.lvtLint1

/-- The pin LINTIN`j` and its detector. -/
def LocalUnit.pinAt (u : LocalUnit) (j : Lint) : InputPin :=
  match j with
  | .lint0 => u.lint0
  | .lint1 => u.lint1

/-- `u` with the pin LINTIN`j` at `x`. -/
def LocalUnit.withPin (u : LocalUnit) (j : Lint) (x : InputPin) : LocalUnit :=
  match j with
  | .lint0 => { u with lint0 := x }
  | .lint1 => { u with lint1 := x }

/-- `u` with the entry of LINTIN`j` at `e`. -/
def LocalUnit.withEntry (u : LocalUnit) (j : Lint) (e : Word) : LocalUnit :=
  match j with
  | .lint0 => { u with lvtLint0 := e }
  | .lint1 => { u with lvtLint1 := e }

/-! ### Inputs of an I/O unit -/

/-- The message of entry `e` of pin `j` of I/O unit `n` with the ID register `id` (R206, R207). -/
def pinMessage (n : Nat) (j : Fin 16) (id : Word) (e : Word64) (mode : DeliveryMode) (trigger : TriggerMode) (level : Bool) :
    Message where
  source      := .io n j
  srcId       := id.extractLsb' 24 8
  vector      := e.extractLsb' 0 8
  mode        := mode
  destMode    := if e.getLsbD 11 then .logical else .physical
  level       := level
  trigger     := trigger
  destination := if e.getLsbD 11 then e.extractLsb' 32 32 else (e.extractLsb' 56 8).setWidth 32
  shorthand   := .none

/-- The delivery modes, with their codes, that R176 allows an edge-triggered entry. -/
def edgeModes : List (BitVec 3 × DeliveryMode) := [(0b000#3, .fixed), (0b001#3, .lowestPriority), (0b111#3, .extInt)]

/-- The delivery modes, with their codes, that R176 allows a level-triggered entry. -/
def levelModes : List (BitVec 3 × DeliveryMode) :=
  [(0b000#3, .fixed), (0b001#3, .lowestPriority), (0b100#3, .nmi), (0b101#3, .reset)]

/-- The row of the low word of entry `j` (R113). -/
def lowRow (p n : Nat) (j : Fin 16) (a : Access) : Instr :=
  if j.val < 8 then .ioIdxRtLow0To7 p n (BitVec.ofNat 3 j.val) a else .ioIdxRtLow8To15 p n (BitVec.ofNat 3 (j.val - 8)) a

/-! ### The scan path -/

/-- R253: what the cell at place `i` (from 0) with the signal `x` samples in normal operation, where the sources say so. -/
def sampledCell (k : Package) (i : Nat) (x : Signal) : Option Bool :=
  match x with
  | .reset => some k.resetPin
  | .lintin j => some (k.lu.pinAt j).level
  | .intin j => some (k.iou.pins.get j).level
  | .addr j => some (k.addrPins.getLsbD j.val)
  | .pint => some (k.lu.pint == .high)
  | .pnmi => some (k.lu.pnmi == .high)
  | .prst => some k.lu.prst
  | .extInta => some k.lu.extInta
  | .rdy | .mbo _ | .control _ | .reserved => none
  | .clkin | .tmbase | .iclk | .dC | .wR | .mIO | .ads | .bgt | .dle | .cs | .mbi _ | .dp _ | .data _ =>
    some (k.extPins.getLsbD i)

/-- The cell numbers (from 1) of the outputs and the bi-directional pins that have a signal name, each with that of its control cell
(R260). -/
def outputCells : List (Nat × Nat) :=
  [(118, 119), (120, 121), (122, 123), (124, 125), (128, 129), (130, 131), (132, 133), (134, 135), (136, 137)] ++
    [55, 57, 58, 59].map (fun c => (c, 56)) ++
    [62, 64, 65, 66, 69, 70, 73, 74, 75, 78, 79, 80, 81, 82, 83, 84, 85, 86, 87, 88, 89, 92, 93, 96, 97, 98, 99, 100, 101,
     102, 103, 104].map (fun c => (c, 63)) ++
    [108, 109, 110, 111, 112, 113, 114, 115].map (fun c => (c, 107))

/-- The opcode that Update-IR latches on the way of five rising edges with `tms` high, falling edges between them, if the way
meets Update-IR (R232, R240 to R242). -/
def opcodeOnTheWay (s : State) (k : Package) (tdi : Option Bool) : Option (BitVec 4) :=
  match k.tap.state with
  | .captureIr => some (Config.freeCaptureIr s.fresh ++ 0b01#2)
  | .shiftIr => some (BitVec.ofBool (tdi.getD true) ++ k.tap.irShift.extractLsb' 1 3)
  | .exit1Ir | .pauseIr | .exit2Ir => some k.tap.irShift
  | _ => none

/-! ### Steps -/

/-- A step on the event `e`, the rest of the schedule being `r`. -/
def onEvent (s : State) (e : Event) (r : List Input) : Res := step { s with input := .event e :: r }

/-- A step on the cycle `c`, the rest of the schedule being `r`. -/
def onCycle (s : State) (c : Cycle) (r : List Input) : Res := step { s with input := .op c :: r }

/-- Whole clocks at the TAP of package `p`: for each value of `tms` listed a rising edge with `tdi` high and a falling edge, the
schedule staying as it is. -/
def clockTap (p : Nat) (l : List Bool) (s : State) : Res :=
  match l with
  | [] => .next s
  | b :: r =>
    andThen (onEvent s (.tap p (.rise (some b) (some true))) s.input) fun t =>
      andThen (onEvent t (.tap p .fall) t.input) (clockTap p r)

/-- The bits of `w` from bit 0 up, `n` of them. -/
def bitsOf {m : Nat} (w : BitVec m) (n : Nat) : List Bool := (List.range n).map fun i => w.getLsbD i

end Sys2Proof.Machine
end

