-- ==== Sys2Proof/Certificates/Slice0/Obligations.lean ====
section
/-!
DEFINITION. The statements for the provers. Each says in its docstring which rule of spec/ it formalises; what rests on a
choice of the model says so and names its log entry.
-/

open Sys2Proof Sys2Proof.Machine

/-! ### Encoding -/

/-- On a platform whose units lie at different boundaries, every well-formed operation is read back from its own cycle, with
every operand at every value (R9, R30, R48, R81, R112, R113, R120, R125; the form of a cycle is the model's, log 3). -/
def Obligations.DecodeOfEncode : Prop :=
  ∀ (pf : Platform) (i : Instr), (pf.lu :: pf.ious).Nodup → WellFormed pf i → decode pf (encode pf i) = .ok i

/-- On every platform what the decoder reads is well-formed, and its own cycle has the port and the word it was read from, the
read of the DUMPREG byte aside, which has no word (log 3). -/
def Obligations.EncodeOfDecode : Prop :=
  ∀ (pf : Platform) (c : Cycle) (i : Instr), decode pf c = .ok i →
    WellFormed pf i ∧ (encode pf i).port = c.port ∧ (c.port ≠ .result → (encode pf i).word = c.word)

/-- Some words of the table, written out from the spec, decode to their operations (R30, R48, R60, R112, R113, R120,
R125), at the addresses R82 recommends (log 4). What a bare word of the table
stands for is the model's choice, log 3: a word below 2^20 is a command and another 32-bit word an address, of the 8-bit words
those below 16 are JTAG opcodes and the others indices, and the operands the word does not hold are zero, with a read. Command
codes and positions: the default layout, log 5. -/
def Obligations.DecodesTableWords : Prop :=
  decodeTableWord 32 0xFEE00080 = some (.luTpr 0 .read) ∧
  decodeTableWord 32 0xFEE000B0 = some (.luEoi 0 .read) ∧
  decodeTableWord 32 0xFEE00220 = some (.luIrr 0 2 .read) ∧
  decodeTableWord 32 0xFEC00010 = some (.ioWindow 0 0 .read) ∧
  decodeTableWord 8 0x2F = some (.ioIdxRtHigh8To15 0 0 7 .read) ∧
  decodeTableWord 32 0x000CC500 = some (.msgReset 0 ⟨0b11#2, 0b00#2, true, true, false, false, 0x00#8⟩) ∧
  decodeTableWord 8 0x2 = some (.jtagIdcode 0 []) ∧
  decodeTableWord 16 0x1284 = some (.fdcPerpendicularMode 0x84#8)

/-! ### The step -/

/-- When the cycle at the head of the schedule decodes, on the platform the machine is, to `i`, a step consumes it and runs `i`:
R80 and R110 give the cycles a processor may issue, R20 leaves when it issues them to `CpuCore` (D1), and R231 and R390 let
the agents act by interleaving. That a schedule, held as data, says who acts next is the model's choice, log 1. -/
def Obligations.StepRunsDecoded : Prop :=
  ∀ (s : State) (c : Cycle) (r : List Input) (i : Instr), s.input = .op c :: r → decode s.platform c = .ok i →
    step s = exec i { s with input := r }

/-- Every step keeps the invariant of the machine: memory canonical in every view (R81), vectors 0 to 15 in no vector register (R39
to R41), reserved bits 0 (R48), COMMIT and PINT in agreement (R52), PINT and PNMI tri-stated exactly while the unit is
disabled (R53, R367), ExtINTA in agreement with COMMIT (R52), the IRR frozen between the two acknowledge cycles only
(R54), a listed JTAG instruction, idcode in Test-Logic-Reset (R71, R233), the write buffer within its depth and
holding register writes only (R23), PRST high while RESET is asserted (R360), the unit disabled while PRST is high
(R167), and a reset due while extest is current (R368, R245; after a reset under extest: log 31). Reserved positions: the default layout, log 5; COMMIT, PINT and ExtINTA: log 20. -/
def Obligations.StepKeepsInvariant : Prop := ∀ s t : State, s.Inv → step s = .next t → t.Inv

/-- The state after reset meets the invariant. Reset values that the spec does not give: log 7. -/
def Obligations.ResetInvariant : Prop := State.reset.Inv ∧ State.reset.BusInv

/-- Every step keeps the rule of R174: a unit's delivery state is not Idle exactly while its one message waits or is
carried. The position of the field: log 5; how the bus is modelled: log 15. -/
def Obligations.StepKeepsDeliveryState : Prop := ∀ s t : State, s.BusInv → step s = .next t → t.BusInv

/-! ### Local unit registers -/

/-- R100, R30, R39 to R41: a read of each readable local unit register returns it and changes nothing else; of the Version
Register only the fields version (7:0) and max_lvt (23:16) are not 0 (R48: reserved bits; positions: the default layout, log
5); word `j` of ISR, TMR and IRR holds bits 32j to 32j+31, bits 0 to 15 reading 0. -/
def Obligations.LocalRegisterReads : Prop :=
  ∀ (s : State) (p : Nat) (k : Package) (j : BitVec 3), BusReady s p k → k.cpu.wbuf = [] →
    exec (.luId p .read) s = .next (s.received p k k.lu.id) ∧
    exec (.luVersion p .read) s = .next (s.received p k (Config.apicVersion &&& 0x00FF00FF#32)) ∧
    exec (.luTpr p .read) s = .next (s.received p k k.lu.tpr) ∧
    exec (.luRemote p .read) s = .next (s.received p k k.lu.remote) ∧
    exec (.luLdr p .read) s = .next (s.received p k k.lu.ldr) ∧
    exec (.luDfr p .read) s = .next (s.received p k k.lu.dfr) ∧
    exec (.luSvr p .read) s = .next (s.received p k k.lu.svr) ∧
    exec (.luIcrLow p .read) s = .next (s.received p k k.lu.icrLow) ∧
    exec (.luIcrHigh p .read) s = .next (s.received p k k.lu.icrHigh) ∧
    exec (.luLvtTimer p .read) s = .next (s.received p k k.lu.lvtTimer) ∧
    exec (.luLvtLint0 p .read) s = .next (s.received p k k.lu.lvtLint0) ∧
    exec (.luLvtLint1 p .read) s = .next (s.received p k k.lu.lvtLint1) ∧
    exec (.luTimerInit p .read) s = .next (s.received p k k.lu.timerInit) ∧
    exec (.luTimerCur p .read) s = .next (s.received p k k.lu.timerCur) ∧
    exec (.luTimerDiv p .read) s = .next (s.received p k k.lu.timerDiv) ∧
    ∃ wi wt wr : Word,
      exec (.luIsr p j .read) s = .next (s.received p k wi) ∧
      exec (.luTmr p j .read) s = .next (s.received p k wt) ∧
      exec (.luIrr p j .read) s = .next (s.received p k wr) ∧
      ∀ b : Nat, b < 32 →
        wi.getLsbD b = (decide (16 ≤ 32 * j.toNat + b) && k.lu.isr.getLsbD (32 * j.toNat + b)) ∧
        wt.getLsbD b = (decide (16 ≤ 32 * j.toNat + b) && k.lu.tmr.getLsbD (32 * j.toNat + b)) ∧
        wr.getLsbD b = (decide (16 ≤ 32 * j.toNat + b) && k.lu.irr.getLsbD (32 * j.toNat + b))

/-- R100, R172, R34, R47: `localRead`, through which a Remote Read reads, gives for every selector what a read of the
processor's own register of that selector returns; where it gives nothing the read returns a free value (log 8). It gives
nothing for the EOI register and the reserved selectors. No read has a side effect. -/
def Obligations.LocalReadBySelector : Prop :=
  ∀ (s : State) (p : Nat) (k : Package) (sel : BitVec 6), BusReady s p k → k.cpu.wbuf = [] →
    exec (localInstr sel p .read) s =
      (match localRead sel k.lu with
       | some w => .next (s.received p k w)
       | none => .next { s.received p k (Config.freeWord s.fresh) with fresh := s.fresh + 1 }) ∧
    exec (.luEoi p .read) s = .next { s.received p k (Config.freeWord s.fresh) with fresh := s.fresh + 1 } ∧
    ∀ c ∈ reservedLocalRows,
      exec (c p .read) s = .next { s.received p k (Config.freeWord s.fresh) with fresh := s.fresh + 1 }

/-- R101, R47, R49: writes, not posted, of the registers that only store: the stored bits are those the register implements;
a write of a read-only register changes nothing (a decision taken over, log 11), and one of a reserved selector nothing
but the record that it happened (log 10). Implemented bits: log 5, log 6; the timer: log 28. -/
def Obligations.LocalRegisterWrites : Prop :=
  ∀ (s : State) (p : Nat) (k : Package) (v : Word) (j : BitVec 3), BusReady s p k → k.cpu.wbuf = [] →
    exec (.luId p (.write v false)) s = .next (s.putLocal p k { k.lu with id := v.extractLsb' 24 8 ++ 0#24 }) ∧
    exec (.luLdr p (.write v false)) s = .next (s.putLocal p k { k.lu with ldr := v }) ∧
    exec (.luDfr p (.write v false)) s = .next (s.putLocal p k { k.lu with dfr := v &&& Config.dfrMask }) ∧
    exec (.luIcrHigh p (.write v false)) s = .next (s.putLocal p k { k.lu with icrHigh := v }) ∧
    exec (.luTimerInit p (.write v false)) s = .next (s.putLocal p k { k.lu with timerInit := v, timerCur := v }) ∧
    exec (.luTimerDiv p (.write v false)) s = .next (s.putLocal p k { k.lu with timerDiv := v &&& Config.timerDivMask }) ∧
    exec (.luVersion p (.write v false)) s = .next s ∧
    exec (.luRemote p (.write v false)) s = .next s ∧
    exec (.luIsr p j (.write v false)) s = .next s ∧
    exec (.luTmr p j (.write v false)) s = .next s ∧
    exec (.luIrr p j (.write v false)) s = .next s ∧
    exec (.luTimerCur p (.write v false)) s = .next s ∧
    ∀ c ∈ reservedLocalRows,
      exec (c p (.write v false)) s = .next { s with flagged := .reservedRegister :: s.flagged }

/-- R43, R48, R49, R182: a write, not posted, of a Local Vector Table entry stores the writable fields, keeps the
read-only ones (delivery state in all three, remote IRR in the two LINT entries only) and stores the reserved bits as
0, and a masked LINT entry puts its detector to Waiting; nothing else changes. Positions and read-only fields: log 5,
log 11. -/
def Obligations.VectorTableWrites : Prop :=
  ∀ (s : State) (p : Nat) (k : Package) (v : Word), BusReady s p k → k.cpu.wbuf = [] →
    ∃ wt w0 w1 : Word,
      exec (.luLvtTimer p (.write v false)) s = .next (s.putLocal p k { k.lu with lvtTimer := wt }) ∧
      exec (.luLvtLint0 p (.write v false)) s = .next (s.putLocal p k
        { k.lu with
          lvtLint0 := w0
          lint0 := ⟨k.lu.lint0.level, if v.getLsbD 16 then .waiting else k.lu.lint0.edge⟩ }) ∧
      exec (.luLvtLint1 p (.write v false)) s = .next (s.putLocal p k
        { k.lu with
          lvtLint1 := w1
          lint1 := ⟨k.lu.lint1.level, if v.getLsbD 16 then .waiting else k.lu.lint1.edge⟩ }) ∧
      ∀ b : Nat, b < 32 →
        w0.getLsbD b = (if b < 11 ∨ b = 15 ∨ b = 16 then v.getLsbD b
          else (decide (b = 12 ∨ b = 14) && k.lu.lvtLint0.getLsbD b)) ∧
        w1.getLsbD b = (if b < 11 ∨ b = 15 ∨ b = 16 then v.getLsbD b
          else (decide (b = 12 ∨ b = 14) && k.lu.lvtLint1.getLsbD b)) ∧
        wt.getLsbD b = (if b < 11 ∨ b = 15 ∨ b = 16 ∨ b = 17 then v.getLsbD b
          else (decide (b = 12) && k.lu.lvtTimer.getLsbD b))

/-- R145, R150, R38, R140, R374: the three writes, not posted, that evaluate dispensing. One of the Task Priority Register stores its
eight bits (the default layout, log 5); one of the EOI register, whatever the value, ends the highest vector in service, if there
is one (with none: log 21); one of the Spurious Vector Register with bit 8 set stores its nine bits (the vector field: log 5) and
drives PNMI when it enables the unit, and with bit 8 clear it stores in a disabled unit, which dispenses nothing, and in an
enabled one stops the run (U11). Nothing else changes. -/
def Obligations.DispensingWrites : Prop :=
  ∀ (s : State) (p : Nat) (k : Package) (v : Word), BusReady s p k → k.cpu.wbuf = [] →
    exec (.luTpr p (.write v false)) s =
      .next (s.putLocal p k (dispense { k.lu with tpr := (v.extractLsb' 0 8).setWidth 32 })) ∧
    (∀ w : Byte, IsHighest k.lu.isr w →
      ∃ isr : VectorSet,
        exec (.luEoi p (.write v false)) s = .next (s.putLocal p k (dispense { k.lu with isr := isr })) ∧
        ∀ x : Byte, hasVector isr x = (decide (x ≠ w) && hasVector k.lu.isr x)) ∧
    (k.lu.isr = 0#256 → exec (.luEoi p (.write v false)) s = .next (s.putLocal p k (dispense k.lu))) ∧
    (v.getLsbD 8 = true → k.lu.svr.getLsbD 8 = false →
      exec (.luSvr p (.write v false)) s = .next (s.putLocal p k
        (dispense { k.lu with
          svr := (v.extractLsb' 0 9).setWidth 32
          pnmi := if k.lu.nmiOut then .high else .low }))) ∧
    (v.getLsbD 8 = true → k.lu.svr.getLsbD 8 = true →
      exec (.luSvr p (.write v false)) s = .next (s.putLocal p k
        (dispense { k.lu with svr := (v.extractLsb' 0 9).setWidth 32 }))) ∧
    (v.getLsbD 8 = false → k.lu.svr.getLsbD 8 = false →
      exec (.luSvr p (.write v false)) s = .next (s.putLocal p k { k.lu with svr := (v.extractLsb' 0 9).setWidth 32 })) ∧
    (v.getLsbD 8 = false → k.lu.svr.getLsbD 8 = true →
      exec (.luSvr p (.write v false)) s = .fault .localUnitDisabledBySvr)

/-! ### The write buffer -/

/-- R85, R23: a write the processor posts to a memory-mapped unit, local or I/O, enters its write buffer while the buffer has room,
whatever register it is to, and nothing else changes; without room, or with the unit in I/O space, it is done as a write that is
not posted. It may be posted to a unit that must be reset, which then refuses it when it drains (R368, log 40, `DrainsOldestFirst`). An
indirect row is a posted select and then a posted window write (log 37): in full where both have room. The depth is a parameter; what is posted: log 12. -/
def Obligations.PostedWrite : Prop :=
  ∀ (s : State) (p : Nat) (k : Package) (sel : BitVec 6) (v : Word),
    (ReachesPage s p k s.platform.lu →
      exec (localInstr sel p (.write v true)) s =
        if s.platform.lu.space = .memory ∧ k.cpu.wbuf.length < Config.wbufDepth then
          .next (s.putPackage p
            { k with cpu := { k.cpu with wbuf := k.cpu.wbuf ++ [(registerAddress s.platform.lu sel, v)] } })
        else exec (localInstr sel p (.write v false)) s) ∧
    (∀ (n : Nat) (i : Byte), n < s.platform.ious.length → IoBusReady s p n k →
      exec (ioInstr sel p n (.write v true)) s =
        (if (ioLocation s.platform n).space = .memory ∧ k.cpu.wbuf.length < Config.wbufDepth then
          .next (s.putPackage p
            { k with cpu := { k.cpu with wbuf := k.cpu.wbuf ++ [(registerAddress (ioLocation s.platform n) sel, v)] } })
        else exec (ioInstr sel p n (.write v false)) s) ∧
      exec (indexInstr i p n (.write v true)) s =
        andThen (exec (.ioSelect p n (.write (i.setWidth 32) true)) s) (exec (.ioWindow p n (.write v true))) ∧
      ((ioLocation s.platform n).space = .memory → k.cpu.wbuf.length + 1 < Config.wbufDepth →
        exec (indexInstr i p n (.write v true)) s = .next (s.putPackage p
          { k with cpu := { k.cpu with wbuf := k.cpu.wbuf ++
            [(registerAddress (ioLocation s.platform n) 0b000000#6, i.setWidth 32),
              (registerAddress (ioLocation s.platform n) 0b000001#6, v)] } })))

/-- R86, R87, R88, R371: with writes in the buffer an access of the processor that is not posted (a read or a write of any register of
its local unit or of an I/O unit, or a command) is the drain of the oldest of them followed by the access, so that all are done
in order before it. An acknowledge is so too where the processor flushes its buffer before it (`INTA_FLUSHES_WBUF`, a parameter).
So after a read that gives a next state the buffer is empty; and in full for a posted write of the Task Priority Register: the
read after it returns the value written (its eight bits: log 5). That any register read drains is a decision taken over, log 12,
as is the order; an indirect row is a select and a window access, log 37, and a command a write that is not posted, log 38. -/
def Obligations.AccessFlushesBuffer : Prop :=
  (∀ (s : State) (p : Nat) (k : Package) (w : Word × Word) (l : List (Word × Word)) (a : Access) (sel : BitVec 6)
      (r : List Input), k.cpu.wbuf = w :: l → (∀ v, a ≠ .write v true) →
    (ReachesPage s p k s.platform.lu →
      exec (localInstr sel p a) { s with input := r } = andThen (onEvent s (.drain p) r) (exec (localInstr sel p a)) ∧
      ∀ (f : CommandFields), ∀ c ∈ [Instr.msgFixed, .msgLowestPriority, .msgRemoteRead, .msgNmi, .msgReset, .msgExtint],
        exec (c p f) { s with input := r } = andThen (onEvent s (.drain p) r) (exec (c p f))) ∧
    (∀ (n : Nat) (i : Byte), n < s.platform.ious.length → IoBusReady s p n k →
      exec (ioInstr sel p n a) { s with input := r } = andThen (onEvent s (.drain p) r) (exec (ioInstr sel p n a)) ∧
      exec (indexInstr i p n a) { s with input := r } = andThen (onEvent s (.drain p) r) (exec (indexInstr i p n a))) ∧
    (ReachesPage s p k s.platform.lu → k.lu.Inv → cpuInt k = true → k.cpu.intrEnabled = true → Config.intaFlushesWbuf = true →
      onEvent s (.intaFirst p) r = andThen (onEvent s (.drain p) r) fun t => onEvent t (.intaFirst p) r)) ∧
  (∀ (s t : State) (p : Nat) (k k' : Package) (sel : BitVec 6), BusReady s p k →
    exec (localInstr sel p .read) s = .next t → t.packages[p]? = some k' → k'.cpu.wbuf = []) ∧
  (∀ (s : State) (p : Nat) (k : Package) (v : Word), BusReady s p k → s.platform.lu.space = .memory →
    k.cpu.wbuf = [(registerAddress s.platform.lu 0b001000#6, v)] →
    exec (.luTpr p .read) s = .next (s.putPackage p
      { k with
        cpu := { k.cpu with wbuf := [], data := (v.extractLsb' 0 8).setWidth 32 }
        lu := dispense { k.lu with tpr := (v.extractLsb' 0 8).setWidth 32 } }))

/-- R85, R88: the oldest write of a buffer, whatever register of a memory-mapped local or I/O unit it is to and whatever follows it,
drains first: the register sees it as a write that is not posted, and the rest of the buffer stays as it was. In full for the two
halves of the order R88 asks for: the high word of the Interrupt Command Register before what follows. A write to the local unit
of a package that must be reset is refused as it drains, one to the I/O unit of another package is not (R368, U16, log 40). The order is a decision
taken over, log 12; that a buffered write drains whether or not the page is mapped uncached: log 14. -/
def Obligations.DrainsOldestFirst : Prop :=
  ∀ (s : State) (p : Nat) (k : Package) (sel : BitVec 6) (v : Word) (l : List (Word × Word)) (r : List Input),
    s.packages[p]? = some k → k.hasCpu = true → cpuHeld k = false →
    (let alone := { s.putPackage p { k with cpu := { k.cpu with wbuf := [], pageUncached := true } } with input := r }
     let rest : State → Res := fun t => .next
       { t with packages := t.packages.modify p fun k' =>
           { k' with cpu := { k'.cpu with wbuf := l, pageUncached := k.cpu.pageUncached } } }
     (s.platform.lu.space = .memory → k.cpu.wbuf = (registerAddress s.platform.lu sel, v) :: l →
       onEvent s (.drain p) r = andThen (exec (localInstr sel p (.write v false)) alone) rest ∧
       (k.needsReset = true → onEvent s (.drain p) r = .refused .needsHardwareReset) ∧
       (sel = 0b110001#6 → k.needsReset = false → unitHeld k = false →
         onEvent s (.drain p) r = .next { s.putPackage p
           { k with cpu := { k.cpu with wbuf := l }, lu := { k.lu with icrHigh := v } } with input := r })) ∧
     (∀ n : Nat, (s.platform.lu :: s.platform.ious).Nodup → n < s.platform.ious.length →
       (ioLocation s.platform n).space = .memory → k.cpu.wbuf = (registerAddress (ioLocation s.platform n) sel, v) :: l →
       onEvent s (.drain p) r = andThen (exec (ioInstr sel p n (.write v false)) alone) rest))

/-- R24, R90, R317, R22, U5: a processor held in reset issues nothing: every register access, command and cycle of it, and a drain of
its buffer, leaves the machine as it is (so too between the two cycles of an acknowledge: log 13); while the page is not mapped
uncached the access of a processor that runs to a memory-mapped unit is refused (one in I/O space is not: log 14); and with its
interrupt mask on, or without a request at its INT pin, a processor starts no acknowledge. All of this whether or not its package
must be reset (R368). -/
def Obligations.ProcessorGate : Prop :=
  ∀ (s : State) (p : Nat) (k : Package) (sel : BitVec 6) (a : Access) (r : List Input), s.packages[p]? = some k →
    k.hasCpu = true →
    (cpuHeld k = true →
      exec (localInstr sel p a) s = .next s ∧
      (∀ (n : Nat) (i : Byte), n < s.platform.ious.length →
        exec (ioInstr sel p n a) s = .next s ∧ exec (indexInstr i p n a) s = .next s) ∧
      (∀ (f : CommandFields), ∀ c ∈ [Instr.msgFixed, .msgLowestPriority, .msgRemoteRead, .msgNmi, .msgReset, .msgExtint],
        exec (c p f) s = .next s) ∧
      (∀ c : Cycle, c.agent = p → c.port = .bus ∨ c.port = .ioSpace → onCycle s c r = .next { s with input := r }) ∧
      onEvent s (.drain p) r = .next { s with input := r }) ∧
    (cpuHeld k = false → k.cpu.pageUncached = false →
      (s.platform.lu.space = .memory → exec (localInstr sel p a) s = .refused .apicPageCached) ∧
      (∀ (n : Nat) (i : Byte), n < s.platform.ious.length → (ioLocation s.platform n).space = .memory →
        exec (ioInstr sel p n a) s = .refused .apicPageCached ∧ exec (indexInstr i p n a) s = .refused .apicPageCached)) ∧
    (k.cpu.intrEnabled = false ∨ cpuInt k = false → onEvent s (.intaFirst p) r = .next { s with input := r })

/-! ### Dispensing, acceptance, acknowledge -/

/-- R146, R144: with no commitment an enabled unit requests its processor for the highest pending vector if that is
above the task priority and above the level of every vector in service; else for a pending external interrupt; else
not at all. A commitment stands; a disabled unit leaves PINT tri-stated. No other field changes. Nesting by level: log
19; a commitment stands: log 20; the place of the task priority: the default layout, log 5. -/
def Obligations.DispenseDecides : Prop :=
  ∀ u : LocalUnit,
    (u.svr.getLsbD 8 = false → dispense u = { u with pint := .z }) ∧
    (u.svr.getLsbD 8 = true → u.commit ≠ .none → dispense u = u) ∧
    (u.svr.getLsbD 8 = true → u.commit = .none → (∃ v, MayDispense u v) →
      dispense u = { u with commit := .internal, extInta := false, pint := .high }) ∧
    (u.svr.getLsbD 8 = true → u.commit = .none → (¬∃ v, MayDispense u v) → u.extIntPending = true →
      dispense u = { u with commit := .external, extInta := true, pint := .high }) ∧
    (u.svr.getLsbD 8 = true → u.commit = .none → (¬∃ v, MayDispense u v) → u.extIntPending = false →
      dispense u = { u with pint := .low })

/-- R141: accepting a Fixed or Lowest Priority interrupt sets or clears exactly the vector's IRR bit, records the
trigger mode of an assertion in exactly its TMR bit, and evaluates dispensing; vectors 0 to 15 do nothing. The TMR
update: log 19. -/
def Obligations.AcceptFixedEffect : Prop :=
  ∀ (u : LocalUnit) (v : Byte) (t : TriggerMode) (lvl : Bool),
    (v.toNat < 16 → acceptFixed v t lvl u = u) ∧
    (16 ≤ v.toNat → ∃ irr tmr : VectorSet,
      acceptFixed v t lvl u = dispense { u with irr := irr, tmr := tmr } ∧
      (∀ x : Byte, hasVector irr x = if x = v then (decide (t = .edge) || lvl) else hasVector u.irr x) ∧
      (∀ x : Byte, hasVector tmr x =
        if x = v then (if t = .edge then false else if lvl then true else hasVector u.tmr x) else hasVector u.tmr x))

/-- R320, R322, R143: an internal acknowledge, with nothing in the write buffer or overtaking what is there (R87; where the processor
flushes it first: `AccessFlushesBuffer`). With a vector `v` that may be dispensed the first cycle freezes the IRR and chooses `v`,
the second returns it, puts it in service, clears its IRR bit if it was accepted as an edge (that the bit of a level acceptance
stays is an inference R143 marks as its own), ends the request and evaluates dispensing; with nothing to dispense the spurious
vector is returned, ISR and IRR stay as they are. The data of the first cycle are a free value (U18, log 8); that the vector
stands on the low byte of the bus and the rest is 0 is general knowledge (G9, log 20). Which vector is taken, and TMR: log 19;
the vector field and the place of the task priority: log 5. -/
def Obligations.InternalAcknowledge : Prop :=
  ∀ (s : State) (p : Nat) (k : Package) (ext : Byte) (r : List Input),
    BusReady s p k → k.cpu.wbuf = [] ∨ Config.intaFlushesWbuf = false → cpuInt k = true → k.cpu.intrEnabled = true →
    k.lu.commit = .internal →
    (∀ v : Byte, MayDispense k.lu v →
      ∃ t isr irr,
        onEvent s (.intaFirst p) (.event (.intaSecond p ext) :: r) = .next t ∧
        t = { s.putPackage p
            { k with
              cpu := { k.cpu with data := Config.freeAcknowledgeData s.fresh }
              lu := { k.lu with irrFrozen := true, intaVector := v, intaGenuine := true, intaPhase := .afterFirst } } with
            fresh := s.fresh + 1
            input := .event (.intaSecond p ext) :: r } ∧
        step t = .next { s.putPackage p
            { k with
              cpu := { k.cpu with data := v.setWidth 32, vector := some v }
              lu := dispense { k.lu with
                irrFrozen := false, intaVector := v, intaGenuine := true, intaPhase := .idle
                isr := isr, irr := irr, pint := .low, commit := .none } } with
            fresh := s.fresh + 1
            input := r } ∧
        (∀ x : Byte, hasVector isr x = (decide (x = v) || hasVector k.lu.isr x)) ∧
        (∀ x : Byte, hasVector irr x = ((decide (x ≠ v) || hasVector k.lu.tmr v) && hasVector k.lu.irr x))) ∧
    ((¬∃ v, MayDispense k.lu v) →
      ∃ t, onEvent s (.intaFirst p) (.event (.intaSecond p ext) :: r) = .next t ∧
        step t = .next { s.putPackage p
            { k with
              cpu := { k.cpu with
                data := (k.lu.svr.extractLsb' 0 8).setWidth 32, vector := some (k.lu.svr.extractLsb' 0 8) }
              lu := dispense { k.lu with
                irrFrozen := false, intaVector := k.lu.svr.extractLsb' 0 8, intaGenuine := false, intaPhase := .idle
                pint := .low, commit := .none } } with
            fresh := s.fresh + 1
            input := r })

/-- R321: an acknowledge committed to the external interrupt returns the 8259A's vector, clears the pending external
interrupt with PINT and ExtINTA, touches neither ISR nor IRR, and evaluates dispensing; with nothing in the write
buffer or overtaking what is there (R87; where the processor flushes it first: `AccessFlushesBuffer`). ExtINTA with nothing
committed, and the low byte of the bus (G9): log 20. -/
def Obligations.ExternalAcknowledge : Prop :=
  ∀ (s : State) (p : Nat) (k : Package) (ext : Byte) (r : List Input),
    BusReady s p k → k.cpu.wbuf = [] ∨ Config.intaFlushesWbuf = false → cpuInt k = true → k.cpu.intrEnabled = true → k.lu.commit = .external →
    ∃ t, onEvent s (.intaFirst p) (.event (.intaSecond p ext) :: r) = .next t ∧
      step t = .next { s.putPackage p
          { k with
            cpu := { k.cpu with data := ext.setWidth 32, vector := some ext }
            lu := dispense { k.lu with
              irrFrozen := false, intaPhase := .idle, extIntPending := false, extInta := false
              pint := .low, commit := .none } } with
          fresh := s.fresh + 1
          input := r }

/-! ### Commands -/

/-- R170, R171, R176, R42: the command rows, for every form that is allowed and has a shorthand other than Self, given
an Idle delivery state: the low word is stored, the delivery state becomes not Idle, the message waits for the bus.
The status of a Remote Read becomes in progress (log 22). A unit that is disabled sends them too, log 16. Codes and positions: the default layout, log 5; a row is a
write of the low word: log 38. -/
def Obligations.CommandRowsSend : Prop :=
  ∀ (s : State) (p : Nat) (k : Package) (f : CommandFields), BusReady s p k → k.cpu.wbuf = [] →
    k.lu.icrLow.getLsbD 12 = false → f.shorthand ≠ 0b01#2 →
    exec (.msgFixed p f) s =
      .next (s.commandSent p k .fixed 0b000#3 (k.lu.icrLow.extractLsb' 16 2) f) ∧
    exec (.msgLowestPriority p f) s =
      .next (s.commandSent p k .lowestPriority 0b001#3 (k.lu.icrLow.extractLsb' 16 2) f) ∧
    (f.triggerLevel = true →
      exec (.msgNmi p f) s = .next (s.commandSent p k .nmi 0b100#3 (k.lu.icrLow.extractLsb' 16 2) f)) ∧
    (f.triggerLevel = true → (f.level = true → f.shorthand ≠ 0b10#2) →
      exec (.msgReset p f) s = .next (s.commandSent p k .reset 0b101#3 (k.lu.icrLow.extractLsb' 16 2) f)) ∧
    (f.triggerLevel = false → f.shorthand = 0b00#2 →
      exec (.msgExtint p f) s = .next (s.commandSent p k .extInt 0b111#3 (k.lu.icrLow.extractLsb' 16 2) f)) ∧
    (f.triggerLevel = false → f.shorthand = 0b00#2 → f.logical = false → k.lu.icrHigh.extractLsb' 24 8 ≠ 0xFF#8 →
      exec (.msgRemoteRead p f) s = .next (s.commandSent p k .remoteRead 0b011#3 0b01#2 f))

/-- R170, R48: a write, not posted, of the ICR low word with the delivery state Idle does what the command row of its
fields does; bits 31 to 20 and 13 are reserved (R48) and have no effect. That a row is a write of the low word is the
model's choice, log 38; codes and positions: the default layout, log 5. -/
def Obligations.IcrLowWriteIsCommand : Prop :=
  ∀ (s : State) (p : Nat) (k : Package) (v : Word), BusReady s p k → k.cpu.wbuf = [] → k.lu.icrLow.getLsbD 12 = false →
    exec (.luIcrLow p (.write v false)) s = exec (commandInstr (v.extractLsb' 8 3) p (commandFields v)) s

/-- R173, R166: a command with shorthand Self takes effect on its own unit at once, with no message on the bus and the delivery
state Idle: Fixed and Lowest Priority are accepted, NMI drives NMI_OUT with the level, and PNMI if the unit is enabled, a
Reset deassert finds PRST down and leaves every Arb ID, a Remote Read returns the unit's own register, or a free value where
the register has none (log 8, log 22). That a row is a write of the low word: log 38; the Reset deassert: log 23; a disabled
unit: log 16; positions: log 5. -/
def Obligations.SelfCommands : Prop :=
  ∀ (s : State) (p : Nat) (k : Package) (f : CommandFields), BusReady s p k → k.cpu.wbuf = [] →
    k.lu.icrLow.getLsbD 12 = false → f.shorthand = 0b01#2 →
    (let st := k.lu.icrLow.extractLsb' 16 2
     let t := if f.triggerLevel then TriggerMode.level else .edge
     exec (.msgFixed p f) s = .next (s.putLocal p k
       (acceptFixed f.vector t f.level { k.lu with icrLow := rowWord 0b000#3 f false st })) ∧
     exec (.msgLowestPriority p f) s = .next (s.putLocal p k
       (acceptFixed f.vector t f.level { k.lu with icrLow := rowWord 0b001#3 f false st })) ∧
     (f.triggerLevel = true →
       exec (.msgNmi p f) s = .next (s.putLocal p k
         { k.lu with
           icrLow := rowWord 0b100#3 f false st
           nmiOut := f.level
           pnmi := if k.lu.svr.getLsbD 8 then (if f.level then .high else .low) else k.lu.pnmi })) ∧
     (f.triggerLevel = true → f.level = false →
       exec (.msgReset p f) s = .next (s.putLocal p k { k.lu with icrLow := rowWord 0b101#3 f false st })) ∧
     (f.triggerLevel = false → f.logical = false →
       (∀ w : Word, localRead (f.vector.extractLsb' 0 6) { k.lu with icrLow := rowWord 0b011#3 f false st } = some w →
         exec (.msgRemoteRead p f) s = .next (s.putLocal p k
           { k.lu with icrLow := rowWord 0b011#3 f false 0b10#2, remote := w })) ∧
       (localRead (f.vector.extractLsb' 0 6) { k.lu with icrLow := rowWord 0b011#3 f false st } = none →
         exec (.msgRemoteRead p f) s = .next
           { s.putLocal p k { k.lu with icrLow := rowWord 0b011#3 f false 0b10#2, remote := Config.freeWord s.fresh } with
             fresh := s.fresh + 1 })))

/-- R171, R176, U6, U7: the commands that stop the run: any while the delivery state is not Idle; and the combinations
that the items of R171 and the table of R176 exclude. Which fault names which case: log 40; that a row is a write of
the low word: log 38; the fields of a command, bit 12 and bits 31 to 24 of the high word: the default layout, log 5.
-/
def Obligations.CommandRowsStop : Prop :=
  ∀ (s : State) (p : Nat) (k : Package) (f : CommandFields), BusReady s p k → k.cpu.wbuf = [] →
    (k.lu.icrLow.getLsbD 12 = true →
      ∀ c ∈ [Instr.msgFixed, .msgLowestPriority, .msgRemoteRead, .msgNmi, .msgReset, .msgExtint],
        exec (c p f) s = .fault .icrWrittenWhileBusy) ∧
    (k.lu.icrLow.getLsbD 12 = false →
      (f.triggerLevel = false → exec (.msgNmi p f) s = .fault .deliveryTriggerCombination) ∧
      (f.triggerLevel = true → f.shorthand = 0b00#2 →
        exec (.msgExtint p f) s = .fault .deliveryTriggerCombination) ∧
      (f.shorthand ≠ 0b00#2 → exec (.msgExtint p f) s = .fault .icrCombination) ∧
      (f.triggerLevel = true ∨ f.logical = true ∨ f.shorthand.getLsbD 1 = true →
        exec (.msgRemoteRead p f) s = .fault .icrCombination) ∧
      (f.shorthand = 0b00#2 → k.lu.icrHigh.extractLsb' 24 8 = 0xFF#8 →
        exec (.msgRemoteRead p f) s = .fault .icrCombination) ∧
      (f.level = true → f.shorthand = 0b01#2 ∨ f.shorthand = 0b10#2 →
        exec (.msgReset p f) s = .fault .icrCombination) ∧
      (f.triggerLevel = false → f.level = false ∨ f.shorthand = 0b00#2 ∨ f.shorthand = 0b11#2 →
        exec (.msgReset p f) s = .fault .deliveryTriggerCombination))

/-- R128, R256, U6, U10: the two reserved delivery mode codes stop the run, and the reserved JTAG opcode and the
eleven unlisted ones are refused. The treatment of the codes is that of U6, which R128 leaves them to (log 40), and
that of the opcodes is U10's, taken over (log 32). -/
def Obligations.ReservedCodesStop : Prop :=
  ∀ (s : State) (p : Nat) (f : CommandFields) (l : List Bool),
    exec (.msgReserved010 p f) s = .fault .icrCombination ∧
    exec (.msgReserved110 p f) s = .fault .icrCombination ∧
    ∀ c ∈ [Instr.jtagReserved1001, .jtagUnlisted0011, .jtagUnlisted0100, .jtagUnlisted0101, .jtagUnlisted0110,
        .jtagUnlisted0111, .jtagUnlisted1000, .jtagUnlisted1010, .jtagUnlisted1011, .jtagUnlisted1100,
        .jtagUnlisted1101, .jtagUnlisted1110],
      exec (c p l) s = .refused .jtagOpcode

/-! ### The ICC bus -/

/-- R68, R160, R370, U13: the bus carries one message at a time: a free bus takes the waiting message that wins, if its sender need
not be reset first (R368), and the others wait as they were; a busy bus takes none. Which of them wins, two messages of one sender
among them, is the schedule's choice, log 15. A message is not carried while two units that use the bus have one ID: its sender
and another local unit, or an I/O unit, or two local units beside it. A local unit uses it if it is enabled and RESET does not
hold it, or if it has a message waiting; an I/O unit if an entry is unmasked, or if it has a message waiting (log 18). The place of
the IDs (bits 31 to 24) and of the mask: the default layout, log 5. -/
def Obligations.Arbitration : Prop :=
  (∀ (s : State) (l r : List Message) (m : Message) (rest : List Input), s.icc.queue = l ++ m :: r →
    (s.icc.carried = none →
      (∀ (q : Nat) (k : Package), s.packages[q]? = some k → m.source = .local q ∨ (∃ j, m.source = .io q j) →
        k.needsReset = false) →
      onEvent s (.arbitrate l.length) rest = .next { s with icc := ⟨l ++ r, some m⟩, input := rest }) ∧
    (∀ (x : Message) (i : Nat), s.icc.carried = some x →
      onEvent s (.arbitrate i) rest = .next { s with input := rest })) ∧
  (∀ (s : State) (m : Message) (choice : List Nat) (r : List Input) (q : Nat) (k : Package),
    s.icc.carried = some m → s.packages[q]? = some k →
    (let uses := fun (q : Nat) (k : Package) => m.source ≠ .local q ∧
       ((k.hasCpu = true ∧ k.resetPin = false ∧ k.lu.svr.getLsbD 8 = true) ∨ ∃ x ∈ s.icc.queue, x.source = .local q)
     (uses q k → k.lu.id.extractLsb' 24 8 = m.srcId → onEvent s (.deliver choice) r = .refused .duplicateUnitId) ∧
     ((∀ j, m.source ≠ .io q j) →
       (∃ j, (k.iou.rt.get j).getLsbD 16 = false) ∨ (∃ x ∈ s.icc.queue, ∃ j, x.source = .io q j) →
       k.iou.id.extractLsb' 24 8 = m.srcId → onEvent s (.deliver choice) r = .refused .duplicateUnitId) ∧
     (∀ (q' : Nat) (k' : Package), s.packages[q']? = some k' → q ≠ q' → uses q k → uses q' k' →
       k.lu.id.extractLsb' 24 8 = k'.lu.id.extractLsb' 24 8 → onEvent s (.deliver choice) r = .refused .duplicateUnitId)))

/-- R160, R162, R174, R210, D20: a Fixed, ExtINT or NMI message, and a level deassert under Lowest Priority, of a local or an
I/O unit and with any destination, is accepted by every target and by no other unit; the delivery state of the sender
returns to Idle, that of an I/O entry unless another message of its pin waits, and its remote IRR follows an accepted level
message; nothing else changes. Which units accept while disabled: log 16; the bus: log 15; the fields of the sender: log 5,
log 25; the flat match: G3, log 39. -/
def Obligations.DeliversToEveryTarget : Prop :=
  ∀ (s : State) (m : Message) (choice : List Nat) (r : List Input), Deliverable s m →
    m.mode = .fixed ∨ m.mode = .extInt ∨ m.mode = .nmi ∨ (m.mode = .lowestPriority ∧ m.trigger = .level ∧ m.level = false) →
    onEvent s (.deliver choice) r =
      .next { s.carriedOut m fun q k => if isTarget m q k then accepted m k.lu else k.lu with input := r }

/-- R162, R37, U12: a message of any mode with a Logical destination stops the run when some unit that could receive it has a
format that is not flat; when all are flat a Fixed one is accepted by exactly the units of which a bit of the Logical
Destination Register and of the destination agree. The bitwise match is general knowledge (G3, log 39), as is which units
count (log 39); which values are flat is a parameter (log 6). -/
def Obligations.LogicalDelivery : Prop :=
  ∀ (s : State) (m : Message) (choice : List Nat) (r : List Input), s.icc.carried = some m → (idsInUse m s).Nodup →
    m.destMode = .logical → m.shorthand = .none →
    (receiversFlat s m = false → onEvent s (.deliver choice) r = .fault .dfrFormat) ∧
    (receiversFlat s m = true → m.mode = .fixed → Trusted s m →
      onEvent s (.deliver choice) r =
        .next { s.carriedOut m fun _ k =>
          if k.hasCpu && !k.resetPin && k.lu.svr.getLsbD 8 && (k.lu.ldr &&& m.destination) != 0#32 then
            acceptFixed m.vector m.trigger m.level k.lu
          else k.lu with input := r })

/-- R163, R381: an assertion with Lowest Priority, with any destination, is accepted by the winners only; there is a
winner if there is a target; every winner is a target that holds the vector pending or in service if any target does,
and else has the least of the targets' priorities (the greatest of the task priority and the levels in service or
pending); more than one wins only with equal Arb IDs. Which of them wins is the schedule's choice, log 17. Which units a Logical destination names
is the flat match of general knowledge (G3, log 39). Focus and
the priority compared are general knowledge (G3), log 17; the place of the task priority: log 5. -/
def Obligations.LowestPriorityWinners : Prop :=
  ∀ (s : State) (m : Message) (choice : List Nat) (r : List Input), Deliverable s m → m.mode = .lowestPriority →
    m.trigger = .edge ∨ m.level = true →
    ∃ win : Nat → Bool,
      onEvent s (.deliver choice) r =
        .next { s.carriedOut m fun q k => if win q then accepted m k.lu else k.lu with input := r } ∧
      ((∃ q, targetAt s m q = true) → ∃ q, win q = true) ∧
      ∀ q, win q = true → ∃ k, s.packages[q]? = some k ∧ isTarget m q k = true ∧
        (∀ (q' : Nat) (k' : Package), s.packages[q']? = some k' → isTarget m q' k' = true →
          (hasVector k'.lu.irr m.vector = true ∨ hasVector k'.lu.isr m.vector = true →
            hasVector k.lu.irr m.vector = true ∨ hasVector k.lu.isr m.vector = true) ∧
          (hasVector k.lu.irr m.vector = false → hasVector k.lu.isr m.vector = false →
            ∀ a b : Nat, ComparedPriority k.lu a → ComparedPriority k'.lu b → a ≤ b)) ∧
        (∀ (q' : Nat) (k' : Package), s.packages[q']? = some k' → win q' = true → k'.lu.arbId = k.lu.arbId)

/-- R167, R361: a Reset message with level 1 puts every target in its reset state: the ID is kept, the masks are set,
every other register is 0, PRST is high, PINT and PNMI are tri-stated; the messages a target had not sent are lost;
nothing else changes. That the I/O unit of a target keeps its registers is D21, log 26; ExtINTA is low: D11, log 20;
that the messages are lost is an inference of R360; that a unit held by RESET is no
target: log 41; the match of a Logical destination: G3, log 39; the place of the ID: the default layout, log 5. -/
def Obligations.ResetMessageAsserts : Prop :=
  ∀ (s : State) (m : Message) (choice : List Nat) (r : List Input), Deliverable s m → m.mode = .reset → m.level = true →
    onEvent s (.deliver choice) r =
      .next { s.carriedOut m (fun q k =>
          if isTarget m q k then
            { LocalUnit.cleared (k.lu.id.extractLsb' 24 8 ++ 0#24) with
              prst := true, resetOut := true
              lint0 := ⟨k.lu.lint0.level, .waiting⟩, lint1 := ⟨k.lu.lint1.level, .waiting⟩ }
          else k.lu) with
        icc := ⟨s.icc.queue.filter fun x => (match x.source with | .local q => !targetAt s m q | .io _ _ => true), none⟩
        input := r }

/-- R168, R366: a Reset message with level 0, a Logical destination of all zeroes among its forms, lowers the PRST of every
target that has it high, whose processor starts when the pin falls (log 27; not under extest, where the unit does not drive the pin:
log 31) at the reset vector with interrupts masked and an empty write buffer, and sets the Arb ID of every local unit that is not held by RESET to its unit ID. That a unit
held by RESET keeps its Arb ID and is no target is an inference, log 41; the match of a Logical destination: G3, log 39. The page of a started processor is uncached (log 14), and it has received nothing (log 7); the place
of the ID: log 5. -/
def Obligations.ResetMessageDeasserts : Prop :=
  ∀ (s : State) (m : Message) (choice : List Nat) (r : List Input), Deliverable s m → m.mode = .reset → m.level = false →
    onEvent s (.deliver choice) r =
      .next { s with
        packages := s.packages.mapIdx fun q k =>
          let freed := isTarget m q k && k.lu.prst
          let u := if freed then { k.lu with prst := false, extInta := false, resetOut := false } else k.lu
          senderDone s m q { k with
            lu := if k.resetPin then u else { u with arbId := k.lu.id.extractLsb' 24 8 }
            cpu := if freed && k.tap.ir != 0b0000#4 then restarted else k.cpu }
        icc := { s.icc with carried := none }
        input := r }

/-- R172, R174, R161: a Remote Read stores the addressed unit's register, which the vector field names, in the sender's Remote
Register with status valid, a free value (log 8) where that register has none; addressed to no unit it leaves the Remote
Register and sets the status invalid; addressed only to units that cannot receive it, disabled or held by RESET, it is carried
without an effect and the status stays as it is (DEDUCED, log 22). The delivery state is Idle after each. The selector in the
vector field and the status codes are general knowledge (G5): the default layout, log 5, log 22. -/
def Obligations.RemoteReadReturns : Prop :=
  ∀ (s : State) (m : Message) (choice : List Nat) (r : List Input) (p : Nat) (k : Package), Deliverable s m →
    m.mode = .remoteRead → m.source = .local p → s.packages[p]? = some k →
    (∀ (q : Nat) (kq : Package), s.packages[q]? = some kq → isTarget m q kq = true →
      (∀ q', targetAt s m q' = true → q' = q) →
      (∀ w : Word, localRead (m.vector.extractLsb' 0 6) kq.lu = some w →
        onEvent s (.deliver choice) r = .next { s.putLocal p k
            { k.lu with remote := w, icrLow := (k.lu.icrLow &&& 0xFFFCEFFF#32) ||| 0x00020000#32 } with
          icc := { s.icc with carried := none }, input := r }) ∧
      (localRead (m.vector.extractLsb' 0 6) kq.lu = none →
        onEvent s (.deliver choice) r = .next { s.putLocal p k
            { k.lu with
              remote := Config.freeWord s.fresh, icrLow := (k.lu.icrLow &&& 0xFFFCEFFF#32) ||| 0x00020000#32 } with
          icc := { s.icc with carried := none }, fresh := s.fresh + 1, input := r })) ∧
    ((∀ (q : Nat) (kq : Package), s.packages[q]? = some kq → kq.hasCpu = true → isNamed m q kq = false) →
      onEvent s (.deliver choice) r = .next { s.putLocal p k { k.lu with icrLow := k.lu.icrLow &&& 0xFFFCEFFF#32 } with
        icc := { s.icc with carried := none }, input := r }) ∧
    (∀ (q : Nat) (kq : Package), s.packages[q]? = some kq → kq.hasCpu = true → isNamed m q kq = true →
      (∀ q', targetAt s m q' = false) →
      onEvent s (.deliver choice) r = .next { s.putLocal p k { k.lu with icrLow := k.lu.icrLow &&& 0xFFFFEFFF#32 } with
        icc := { s.icc with carried := none }, input := r })

/-! ### I/O unit -/

/-- R200: a write, not posted, of the I/O unit's SELECT stores bits 7:0 of the value, with bits 31:8 stored as 0, and has no
other effect; a read of it returns SELECT. -/
def Obligations.IoDirectRegisters : Prop :=
  ∀ (s : State) (p n : Nat) (k kn : Package) (v : Word), IoBusReady s p n k → k.cpu.wbuf = [] →
    IoReady s n kn →
    exec (.ioSelect p n .read) s = .next (s.received p k kn.iou.select) ∧
    exec (.ioSelect p n (.write v false)) s =
      .next (s.putIo n kn { kn.iou with select := (v.extractLsb' 0 8).setWidth 32 })

/-- R201: the window is the register that SELECT names, whichever that is: an access to the window that is not posted does
what the row of the index in SELECT does. In full for the ID and for the high word of entry `j`; the other indices are in
`IndirectReads`, `IndirectWrites` and `EntryWriteSends`. The ID field: log 5; a row is a select and a window access: log 37. -/
def Obligations.IoWindow : Prop :=
  ∀ (s : State) (p n : Nat) (k kn : Package) (v : Word) (j : Fin 16), IoBusReady s p n k → k.cpu.wbuf = [] →
    IoReady s n kn →
    (∀ (i : Byte) (a : Access), kn.iou.select = i.setWidth 32 → (∀ x, a ≠ .write x true) →
      exec (.ioWindow p n a) s = exec (indexInstr i p n a) s) ∧
    (kn.iou.select.extractLsb' 0 8 = 0x00#8 →
      exec (.ioWindow p n .read) s = .next (s.received p k kn.iou.id) ∧
      exec (.ioWindow p n (.write v false)) s =
        .next (s.putIo n kn { kn.iou with id := v.extractLsb' 24 8 ++ 0#24 })) ∧
    (kn.iou.select.extractLsb' 0 8 = BitVec.ofNat 8 (0x11 + 2 * j.val) →
      exec (.ioWindow p n .read) s = .next (s.received p k ((kn.iou.rt.get j).extractLsb' 32 32)) ∧
      exec (.ioWindow p n (.write v false)) s =
        .next (s.putIo n kn
          { kn.iou with rt := kn.iou.rt.set j.val (v ++ (kn.iou.rt.get j).extractLsb' 0 32) j.isLt }))

/-- R61, R113, R201, R202, R210: a read of an indirect register selects it and returns it: ID, Version (its two
fields, R48), both words of entry `j` of the lower and of the upper half of the table, where remote IRR (bit 14) is
the stored bit for a level-triggered entry and 0 for an edge-triggered one (G8, log 25); a reserved index reads as a
free value (log 8). Only SELECT and the processor's data change. A reserved direct selector (R47) also reads as a free
value, and changes the data only. A row is a select and a window access: log 37; positions: log 5. -/
def Obligations.IndirectReads : Prop :=
  ∀ (s : State) (p n : Nat) (k kn : Package) (j : BitVec 3) (x : Byte) (sel : BitVec 6), IoBusReady s p n k →
    k.cpu.wbuf = [] → IoReady s n kn → indexReserved x → 2 ≤ sel.toNat →
    ∃ r : Byte → Word → State,
      (∀ i w, r i w = { s with
        packages := s.packages.mapIdx fun q kq =>
          { kq with
            iou := if q = n then { kq.iou with select := i.setWidth 32 } else kq.iou
            cpu := if q = p then { kq.cpu with data := w } else kq.cpu } }) ∧
      exec (.ioIdxId p n .read) s = .next (r 0x00#8 kn.iou.id) ∧
      exec (.ioIdxVersion p n .read) s = .next (r 0x01#8 (Config.apicVersion &&& 0x00FF00FF#32)) ∧
      (∃ lo hi : Word,
        exec (.ioIdxRtLow0To7 p n j .read) s = .next (r (BitVec.ofNat 8 (0x10 + 2 * j.toNat)) lo) ∧
        exec (.ioIdxRtLow8To15 p n j .read) s = .next (r (BitVec.ofNat 8 (0x20 + 2 * j.toNat)) hi) ∧
        ∀ b : Nat, b < 32 →
          lo.getLsbD b = ((kn.iou.rt[j.toNat]'(by omega)).getLsbD b &&
            (b != 14 || (kn.iou.rt[j.toNat]'(by omega)).getLsbD 15)) ∧
          hi.getLsbD b = ((kn.iou.rt[8 + j.toNat]'(by omega)).getLsbD b &&
            (b != 14 || (kn.iou.rt[8 + j.toNat]'(by omega)).getLsbD 15))) ∧
      exec (.ioIdxRtHigh0To7 p n j .read) s =
        .next (r (BitVec.ofNat 8 (0x11 + 2 * j.toNat)) ((kn.iou.rt[j.toNat]'(by omega)).extractLsb' 32 32)) ∧
      exec (.ioIdxRtHigh8To15 p n j .read) s =
        .next (r (BitVec.ofNat 8 (0x21 + 2 * j.toNat)) ((kn.iou.rt[8 + j.toNat]'(by omega)).extractLsb' 32 32)) ∧
      exec (.ioIdxReserved p n x .read) s =
        .next { r x (Config.freeWord s.fresh) with fresh := s.fresh + 1 } ∧
      exec (.ioReservedDirect p n sel .read) s =
        .next { s.received p k (Config.freeWord s.fresh) with fresh := s.fresh + 1 }

/-- R201, R202, R205, R49: a write, not posted, of an indirect register selects it and stores it: the ID, the high
word of an entry, and the low word of an entry that the write leaves masked or edge-triggered, with its read-only
fields kept and a masked entry's detector Waiting; Version and the reserved indices keep everything (log 10). A write
of a reserved direct selector leaves only its record. Positions: log 5; read-only registers: log 11; a row is a select
and a window access: log 37. -/
def Obligations.IndirectWrites : Prop :=
  ∀ (s : State) (p n : Nat) (k kn : Package) (v : Word) (j : BitVec 3) (x : Byte) (sel : BitVec 6), IoBusReady s p n k →
    k.cpu.wbuf = [] → IoReady s n kn → indexReserved x → 2 ≤ sel.toNat →
    ∃ r : Byte → IoUnit → State,
      (∀ i u, r i u = s.putIo n kn { u with select := i.setWidth 32 }) ∧
      exec (.ioIdxId p n (.write v false)) s =
        .next (r 0x00#8 { kn.iou with id := v.extractLsb' 24 8 ++ 0#24 }) ∧
      exec (.ioIdxVersion p n (.write v false)) s = .next (r 0x01#8 kn.iou) ∧
      exec (.ioIdxReserved p n x (.write v false)) s =
        .next { r x kn.iou with flagged := .reservedRegister :: s.flagged } ∧
      exec (.ioReservedDirect p n sel (.write v false)) s = .next { s with flagged := .reservedRegister :: s.flagged } ∧
      exec (.ioIdxRtHigh0To7 p n j (.write v false)) s =
        .next (r (BitVec.ofNat 8 (0x11 + 2 * j.toNat))
          { kn.iou with
            rt := kn.iou.rt.set j.toNat (v ++ (kn.iou.rt[j.toNat]'(by omega)).extractLsb' 0 32) (by omega) }) ∧
      exec (.ioIdxRtHigh8To15 p n j (.write v false)) s =
        .next (r (BitVec.ofNat 8 (0x21 + 2 * j.toNat))
          { kn.iou with
            rt := kn.iou.rt.set (8 + j.toNat) (v ++ (kn.iou.rt[8 + j.toNat]'(by omega)).extractLsb' 0 32) (by omega) }) ∧
      (v.getLsbD 16 = true ∨ v.getLsbD 15 = false →
        ∃ lo hi : Word,
          exec (.ioIdxRtLow0To7 p n j (.write v false)) s =
            .next (r (BitVec.ofNat 8 (0x10 + 2 * j.toNat))
              { kn.iou with
                rt := kn.iou.rt.set j.toNat ((kn.iou.rt[j.toNat]'(by omega)).extractLsb' 32 32 ++ lo) (by omega)
                pins :=
                  if v.getLsbD 16 then
                    kn.iou.pins.set j.toNat ⟨(kn.iou.pins[j.toNat]'(by omega)).level, .waiting⟩ (by omega)
                  else kn.iou.pins }) ∧
          exec (.ioIdxRtLow8To15 p n j (.write v false)) s =
            .next (r (BitVec.ofNat 8 (0x20 + 2 * j.toNat))
              { kn.iou with
                rt := kn.iou.rt.set (8 + j.toNat) ((kn.iou.rt[8 + j.toNat]'(by omega)).extractLsb' 32 32 ++ hi) (by omega)
                pins :=
                  if v.getLsbD 16 then
                    kn.iou.pins.set (8 + j.toNat) ⟨(kn.iou.pins[8 + j.toNat]'(by omega)).level, .waiting⟩ (by omega)
                  else kn.iou.pins }) ∧
          ∀ b : Nat, b < 32 →
            lo.getLsbD b = (if b < 12 ∨ b = 15 ∨ b = 16 then v.getLsbD b
              else (decide (b = 12 ∨ b = 14) && (kn.iou.rt[j.toNat]'(by omega)).getLsbD b)) ∧
            hi.getLsbD b = (if b < 12 ∨ b = 15 ∨ b = 16 then v.getLsbD b
              else (decide (b = 12 ∨ b = 14) && (kn.iou.rt[8 + j.toNat]'(by omega)).getLsbD b)))

/-- R205, R207, U6: a write, not posted, of the low word of entry `j` that leaves it unmasked and level-triggered: with the pin at
the level last sent it only stores the entry (its delivery state and remote IRR kept); else the unit sends the message of
the new entry with the pin's level at once, for every delivery mode R176 allows a level entry, and stops for the others. A
row is a select and a window access: log 37; positions: log 5; the entry's delivery state: log 25; which fault: log 40. -/
def Obligations.EntryWriteSends : Prop :=
  ∀ (s : State) (p n : Nat) (k kn : Package) (v : Word) (j : Fin 16), IoBusReady s p n k → k.cpu.wbuf = [] → IoReady s n kn →
    v.getLsbD 16 = false → v.getLsbD 15 = true →
    (let old := kn.iou.rt.get j
     let lvl := (kn.iou.pins.get j).level
     let e : Word64 :=
       old.extractLsb' 32 32 ++ ((v &&& 0x00018FFF#32) ||| (old.extractLsb' 0 32 &&& 0x00005000#32))
     let u : IoUnit :=
       { kn.iou with select := BitVec.ofNat 32 (0x10 + 2 * j.val), rt := kn.iou.rt.set j.val e j.isLt }
     (kn.iou.levelSent.get j = lvl → exec (lowRow p n j (.write v false)) s = .next (s.putIo n kn u)) ∧
     (kn.iou.levelSent.get j = !lvl →
       (∀ x ∈ levelModes, v.extractLsb' 8 3 = x.1 →
         exec (lowRow p n j (.write v false)) s =
           .next { s.putIo n kn
               { u with
                 rt := kn.iou.rt.set j.val (e ||| 0x1000#64) j.isLt
                 levelSent := kn.iou.levelSent.set j.val lvl j.isLt } with
             icc := { s.icc with queue := s.icc.queue ++ [pinMessage n j kn.iou.id e x.2 .level lvl] } }) ∧
       (v.extractLsb' 8 3 = 0b111#3 →
         exec (lowRow p n j (.write v false)) s = .fault .deliveryTriggerCombination) ∧
       (v.extractLsb' 8 3 ∈ [0b010#3, 0b011#3, 0b110#3] →
         exec (lowRow p n j (.write v false)) s = .fault .redirectionDeliveryMode)))

/-- R181, R182, R206, R208, U6: pin `j` of an I/O unit. Masked, it records its level and its detector waits. Unmasked and edge, a
rise from a waiting detector is seen, and any other change of level only recorded; a seen edge of the lowest such pin (the pins below
it masked, level-triggered or without a seen edge; the order is a decision taken over, D19, log 25) that is still high when the unit is about to send becomes one message, for every delivery mode R176 allows an edge entry, and
stops the run for the others; one that has dropped becomes none; either way the detector waits again. Positions: log 5; how
the entry is sent: log 25; which fault: log 40. -/
def Obligations.EdgeInput : Prop :=
  ∀ (s : State) (n : Nat) (kn : Package) (j : Fin 16) (b : Bool) (r : List Input), IoReady s n kn →
    (let e := kn.iou.rt.get j
     let x := kn.iou.pins.get j
     (e.getLsbD 16 = true →
       onEvent s (.intPin n j b) r =
         .next { s.putIo n kn { kn.iou with pins := kn.iou.pins.set j.val ⟨b, .waiting⟩ j.isLt } with input := r }) ∧
     (e.getLsbD 16 = false → e.getLsbD 15 = false →
       onEvent s (.intPin n j b) r =
         .next { s.putIo n kn { kn.iou with
             pins := kn.iou.pins.set j.val ⟨b, if x = ⟨false, .waiting⟩ ∧ b = true then .seen else x.edge⟩ j.isLt } with
           input := r }) ∧
     (e.getLsbD 16 = false → e.getLsbD 15 = false → x.edge = .seen →
       (∀ i : Fin 16, i < j → (kn.iou.rt.get i).getLsbD 16 = true ∨ (kn.iou.rt.get i).getLsbD 15 = true ∨
         (kn.iou.pins.get i).edge ≠ .seen) →
       (x.level = false →
         onEvent s (.ioSample n) r =
           .next { s.putIo n kn { kn.iou with pins := kn.iou.pins.set j.val ⟨false, .waiting⟩ j.isLt } with
             input := r }) ∧
       (x.level = true →
         (∀ y ∈ edgeModes, e.extractLsb' 8 3 = y.1 →
           onEvent s (.ioSample n) r =
             .next { s.putIo n kn
                 { kn.iou with
                   pins := kn.iou.pins.set j.val ⟨true, .waiting⟩ j.isLt
                   rt := kn.iou.rt.set j.val (e ||| 0x1000#64) j.isLt } with
               icc := { s.icc with queue := s.icc.queue ++ [pinMessage n j kn.iou.id e y.2 .edge true] }
               input := r }) ∧
         (e.extractLsb' 8 3 ∈ [0b100#3, 0b101#3] →
           onEvent s (.ioSample n) r = .fault .deliveryTriggerCombination) ∧
         (e.extractLsb' 8 3 ∈ [0b010#3, 0b011#3, 0b110#3] →
           onEvent s (.ioSample n) r = .fault .redirectionDeliveryMode))))

/-- R206, R207, U6: an unmasked level entry: a pin that takes the level last sent only has it; one that comes to differ from it
makes the unit send the message of the entry, with its destination, and the pin's new level, and record that level, for
every delivery mode R176 allows a level entry; the others stop the run. Positions: log 5; the entry's delivery state becomes
Send Pending: log 25; which fault: log 40. -/
def Obligations.LevelInput : Prop :=
  ∀ (s : State) (n : Nat) (kn : Package) (j : Fin 16) (b : Bool) (r : List Input), IoReady s n kn →
    (kn.iou.rt.get j).getLsbD 16 = false → (kn.iou.rt.get j).getLsbD 15 = true →
    (let e := kn.iou.rt.get j
     let u : IoUnit := { kn.iou with pins := kn.iou.pins.set j.val ⟨b, (kn.iou.pins.get j).edge⟩ j.isLt }
     (kn.iou.levelSent.get j = b → onEvent s (.intPin n j b) r = .next { s.putIo n kn u with input := r }) ∧
     (kn.iou.levelSent.get j = !b →
       (∀ x ∈ levelModes, e.extractLsb' 8 3 = x.1 →
         onEvent s (.intPin n j b) r =
           .next { s.putIo n kn
               { u with
                 levelSent := kn.iou.levelSent.set j.val b j.isLt
                 rt := kn.iou.rt.set j.val (e ||| 0x1000#64) j.isLt } with
             icc := { s.icc with queue := s.icc.queue ++ [pinMessage n j kn.iou.id e x.2 .level b] }
             input := r }) ∧
       (e.extractLsb' 8 3 = 0b111#3 → onEvent s (.intPin n j b) r = .fault .deliveryTriggerCombination) ∧
       (e.extractLsb' 8 3 ∈ [0b010#3, 0b011#3, 0b110#3] →
         onEvent s (.intPin n j b) r = .fault .redirectionDeliveryMode)))

/-! ### Local inputs and timer -/

/-- R180, R181, R182, U6: LINTIN0 and LINTIN1. A masked entry, a unit held by RESET and one that must be reset first only have the
level at the pin, and the detector waits. With an unmasked, edge-triggered entry a rise from a waiting detector is seen, and
at the second sampling a pin that is still high injects the entry: Fixed accepts the vector, ExtINT sets the pending
external interrupt, NMI (with edge) and the modes without a meaning there stop the run; a pin that has dropped injects
nothing. Positions: log 5; the two samplings are events: log 24; a disabled unit: log 16. -/
def Obligations.LocalEdgeInput : Prop :=
  ∀ (s : State) (p : Nat) (k : Package) (j : Lint) (b : Bool) (r : List Input), s.packages[p]? = some k →
    (let e := k.lu.entryAt j
     let x := k.lu.pinAt j
     (k.needsReset = true ∨ k.resetPin = true ∨ e.getLsbD 16 = true →
       onEvent s (.lintPin p j b) r = .next { s.putLocal p k (k.lu.withPin j ⟨b, .waiting⟩) with input := r }) ∧
     (k.needsReset = false → k.resetPin = false → e.getLsbD 16 = false → e.getLsbD 15 = false →
       onEvent s (.lintPin p j b) r =
         .next { s.putLocal p k
           (k.lu.withPin j ⟨b, if x = ⟨false, .waiting⟩ ∧ b = true then .seen else x.edge⟩) with input := r } ∧
       (x.edge = .waiting → onEvent s (.lintSample p j) r = .next { s with input := r }) ∧
       (x = ⟨false, .seen⟩ →
         onEvent s (.lintSample p j) r = .next { s.putLocal p k (k.lu.withPin j ⟨false, .waiting⟩) with input := r }) ∧
       (x = ⟨true, .seen⟩ →
         (e.extractLsb' 8 3 = 0b000#3 →
           onEvent s (.lintSample p j) r = .next { s.putLocal p k
             (acceptFixed (e.extractLsb' 0 8) .edge true (k.lu.withPin j ⟨true, .waiting⟩)) with input := r }) ∧
         (e.extractLsb' 8 3 = 0b111#3 →
           onEvent s (.lintSample p j) r = .next { s.putLocal p k
             (dispense { k.lu.withPin j ⟨true, .waiting⟩ with extIntPending := true }) with input := r }) ∧
         (e.extractLsb' 8 3 = 0b100#3 →
           onEvent s (.lintSample p j) r = .fault .deliveryTriggerCombination) ∧
         (e.extractLsb' 8 3 ∈ [0b001#3, 0b010#3, 0b011#3, 0b101#3, 0b110#3] →
           onEvent s (.lintSample p j) r = .fault .lvtDeliveryMode))))

/-- R180, R183, R166, U6: LINTIN0 and LINTIN1 with an unmasked, level-triggered entry: the unit follows the pin. A pin that keeps
its level changes nothing; one that changes injects the entry with the new level: Fixed accepts the vector, and the entry's
remote IRR follows (as R210 has it for a redirection entry; DEDUCED, log 24), NMI drives NMI_OUT, and PNMI if the unit is
enabled; ExtINT (with level) and the modes without a meaning there stop the run. Positions: log 5; a disabled unit: log 16. -/
def Obligations.LocalLevelInput : Prop :=
  ∀ (s : State) (p : Nat) (k : Package) (j : Lint) (b : Bool) (r : List Input), s.packages[p]? = some k →
    k.needsReset = false → k.resetPin = false →
    (k.lu.entryAt j).getLsbD 16 = false → (k.lu.entryAt j).getLsbD 15 = true →
    (let e := k.lu.entryAt j
     let u := k.lu.withPin j ⟨b, (k.lu.pinAt j).edge⟩
     ((k.lu.pinAt j).level = b → onEvent s (.lintPin p j b) r = .next { s with input := r }) ∧
     ((k.lu.pinAt j).level = !b →
       (e.extractLsb' 8 3 = 0b000#3 →
         onEvent s (.lintPin p j b) r = .next { s.putLocal p k (acceptFixed (e.extractLsb' 0 8) .level b
           (if 16 ≤ (e.extractLsb' 0 8).toNat then
              u.withEntry j (if b then e ||| 0x4000#32 else e &&& 0xFFFFBFFF#32)
            else u)) with input := r }) ∧
       (e.extractLsb' 8 3 = 0b100#3 →
         onEvent s (.lintPin p j b) r = .next { s.putLocal p k
           { u with
             nmiOut := b
             pnmi := if k.lu.svr.getLsbD 8 then (if b then .high else .low) else k.lu.pnmi } with input := r }) ∧
       (e.extractLsb' 8 3 = 0b111#3 → onEvent s (.lintPin p j b) r = .fault .deliveryTriggerCombination) ∧
       (e.extractLsb' 8 3 ∈ [0b001#3, 0b010#3, 0b011#3, 0b101#3, 0b110#3] →
         onEvent s (.lintPin p j b) r = .fault .lvtDeliveryMode)))

/-- R58, R184, R180, U6: the default timer (G7, log 28): a count above 1 goes down by one; at the step from 1 it is reloaded in
periodic mode and 0 otherwise, and the entry is injected: masked, nothing; Fixed, its vector as an edge; ExtINT programmed
Edge, the pending external interrupt; NMI programmed Level, NMI_OUT, and PNMI if the unit is enabled; the pairs R176 excludes
and the other modes stop the run. A count of 0 stays. The trigger field of the entry: log 28; positions: log 5; a disabled
unit: log 16. -/
def Obligations.TimerCounts : Prop :=
  ∀ (s : State) (p : Nat) (k : Package) (r : List Input), s.packages[p]? = some k → k.needsReset = false →
    k.resetPin = false →
    (k.lu.timerCur = 0#32 → onEvent s (.timerTick p) r = .next { s with input := r }) ∧
    (1 < k.lu.timerCur.toNat →
      onEvent s (.timerTick p) r =
        .next { s.putLocal p k { k.lu with timerCur := BitVec.ofNat 32 (k.lu.timerCur.toNat - 1) } with input := r }) ∧
    (k.lu.timerCur = 1#32 →
      (let e := k.lu.lvtTimer
       let u := { k.lu with timerCur := if e.getLsbD 17 then k.lu.timerInit else 0#32 }
       (e.getLsbD 16 = true → onEvent s (.timerTick p) r = .next { s.putLocal p k u with input := r }) ∧
       (e.getLsbD 16 = false →
         (e.extractLsb' 8 3 = 0b000#3 →
           onEvent s (.timerTick p) r =
             .next { s.putLocal p k (acceptFixed (e.extractLsb' 0 8) .edge true u) with input := r }) ∧
         (e.extractLsb' 8 3 = 0b111#3 →
           onEvent s (.timerTick p) r =
             if e.getLsbD 15 then .fault .deliveryTriggerCombination
             else .next { s.putLocal p k (dispense { u with extIntPending := true }) with input := r }) ∧
         (e.extractLsb' 8 3 = 0b100#3 →
           onEvent s (.timerTick p) r =
             if e.getLsbD 15 then
               .next { s.putLocal p k
                 { u with nmiOut := true, pnmi := if k.lu.svr.getLsbD 8 then .high else k.lu.pnmi } with input := r }
             else .fault .deliveryTriggerCombination) ∧
         (e.extractLsb' 8 3 ∈ [0b001#3, 0b010#3, 0b011#3, 0b101#3, 0b110#3] →
           onEvent s (.timerTick p) r = .fault .lvtDeliveryMode))))

/-! ### Reset -/

/-- R360, R362, R365, R79: hardware reset of a package: its local unit has the address pins as its ID, the masks set,
every other register 0, PINT and PNMI tri-stated, PRST and ExtINTA high; its I/O unit is in its reset state; its
messages are lost (an inference of R360); the mark that a reset is due is lifted (R368), unless extest is still current (R245; log 31);
nothing else changes, the
processor and the TAP among them. The places of the ID and of the masks: the default layout, log 5. -/
def Obligations.HardwareReset : Prop :=
  ∀ (s : State) (p : Nat) (k : Package) (r : List Input), s.packages[p]? = some k →
    onEvent s (.resetAssert p) r = .next { s.putPackage p
        { k with
          lu := { LocalUnit.cleared (k.addrPins ++ 0#24) with
            prst := true, extInta := true
            lint0 := ⟨k.lu.lint0.level, .waiting⟩, lint1 := ⟨k.lu.lint1.level, .waiting⟩ }
          iou :=
            { select := 0#32, id := 0#32, rt := Vector.replicate 16 0x10000#64
              pins := k.iou.pins.map fun x => ⟨x.level, .waiting⟩, levelSent := Vector.replicate 16 false }
          resetPin := true
          needsReset := k.tap.ir == 0b0000#4 } with
      icc :=
        { queue := s.icc.queue.filter fun m => (match m.source with | .local q => q != p | .io n _ => n != p)
          carried := s.icc.carried.filter fun m => (match m.source with | .local q => q != p | .io n _ => n != p) }
      input := r }

/-- R366, R362, R24, R245: at the fall of RESET the unit drops PRST and ExtINTA, and the processor, whose RESET input is the pin PRST,
starts at the reset vector with interrupts masked and an empty write buffer; before it, the address pins are stored in the unit ID
at every sample. That the start is at the fall of the pin, whatever makes it fall, is an inference (DEDUCED, log 27), and so is
that the processor does not start here while extest is current, because the scan path and not the unit then drives the pin
(DEDUCED, log 31). Its page is uncached (log 14), and it has received
nothing (log 7); the place of the ID: log 5. -/
def Obligations.ReleaseAndIdLatch : Prop :=
  ∀ (s : State) (p : Nat) (k : Package) (v : Byte) (r : List Input), s.packages[p]? = some k → k.resetPin = true →
    k.lu.prst = true →
    onEvent s (.resetRelease p) r = .next { s.putPackage p
        { k with
          lu := { k.lu with prst := false, extInta := false, resetOut := false }
          cpu := if k.tap.ir = 0b0000#4 then k.cpu
            else restarted
          resetPin := false } with input := r } ∧
    onEvent s (.addressPins p v) r = .next { s.putPackage p
        { k with addrPins := v, lu := { k.lu with id := v ++ 0#24 } } with input := r }

/-! ### The processor -/

/-- R20, R24, R80, R325: a step of `CpuCore`, which the spec leaves open (D1): held in reset, or between the two cycles of an
acknowledge (log 13), the processor takes none, and neither its interrupt mask nor the mapping of its page changes; else its own state becomes what the parameter makes of that state, of the levels on
INT and NMI and of what it has received, and what it issues comes next: a read or write cycle in one of the two spaces, an
acknowledge, a change of its interrupt mask (R22) or of its page (R90). The platform's input
`first_reset` (D24, log 27) takes a level at any time. That a state of `CpuCore` is held as a number, and
that what is issued is put at the head of the schedule, is the model's choice, log 1. -/
def Obligations.ProcessorSteps : Prop :=
  ∀ (s : State) (p : Nat) (k : Package) (r : List Input), s.packages[p]? = some k → k.hasCpu = true →
    (∀ b : Bool, onEvent s (.firstReset p b) r = .next { s.putPackage p { k with firstReset := b } with input := r }) ∧
    (cpuHeld k = true → ∀ b : Bool, ∀ e ∈ [Event.cpuStep p, .setIntrEnabled p b, .setPageUncached p b],
      onEvent s e r = .next { s with input := r }) ∧
    (cpuHeld k = false → ∀ b : Bool,
      onEvent s (.setIntrEnabled p b) r =
        .next { s.putPackage p { k with cpu := { k.cpu with intrEnabled := b } } with input := r } ∧
      onEvent s (.setPageUncached p b) r =
        .next { s.putPackage p { k with cpu := { k.cpu with pageUncached := b } } with input := r }) ∧
    (cpuHeld k = false →
      (let x : CpuSample :=
         ⟨k.cpu.core, cpuInt k, cpuNmi k, k.cpu.data, k.cpu.vector, k.cpu.intrEnabled, k.cpu.pageUncached,
           k.cpu.wbuf.length, k.firstReset, k.cpu.startAddr, s.fresh⟩
       onEvent s (.cpuStep p) r =
         .next { s.putPackage p { k with cpu := { k.cpu with core := Config.cpuNext x } } with
           fresh := s.fresh + 1
           input :=
             match Config.cpuIssues x with
             | none => r
             | some (.cycle .memory w a addr) => .op ⟨.bus, p, 0, w, a, addr, []⟩ :: r
             | some (.cycle .io w a addr) => .op ⟨.ioSpace, p, 0, w, a, addr, []⟩ :: r
             | some .acknowledge => .event (.intaFirst p) :: r
             | some (.maskInterrupts b) => .event (.setIntrEnabled p b) :: r
             | some (.mapPage b) => .event (.setPageUncached p b) :: r }))

/-! ### JTAG -/

/-- R233: five rising edges with `tms` high, each followed by a falling edge, reach Test-Logic-Reset with idcode from every state
of the controller, if the way does not meet Update-IR with an opcode that no row gives an effect (R256); there the run is
refused (U10, log 32). Which opcode the way meets rests, from Capture-IR and Shift-IR, on general knowledge (G4): the captured 01
below two free bits (log 8) and the order of the shift, log 29. The registers of the package are untouched (R245), and so is its processor unless extest is or was
current (log 31). -/
def Obligations.FiveEdgesReset : Prop :=
  ∀ (s : State) (p : Nat) (k : Package) (tdi : Option Bool), s.packages[p]? = some k →
    (let run := Host.Core.run Sys2Proof.core 10
       { s with input := (List.replicate 5
           [Input.event (.tap p (.rise (some true) tdi)), .event (.tap p .fall)]).flatten }
     ((∀ op, opcodeOnTheWay s k tdi = some op → op ∈ [0b0000#4, 0b0001#4, 0b0010#4, 0b1111#4]) →
       ∃ t k', run = .next t ∧
         t.packages[p]? = some k' ∧ k'.tap.state = .testLogicReset ∧ k'.tap.ir = 0b0010#4 ∧
         k'.lu = k.lu ∧ k'.iou = k.iou ∧
         (k.tap.ir ≠ 0b0000#4 → opcodeOnTheWay s k tdi ≠ some 0b0000#4 → k'.cpu = k.cpu)) ∧
     (∀ op, opcodeOnTheWay s k tdi = some op → op ∉ [0b0000#4, 0b0001#4, 0b0010#4, 0b1111#4] →
       run = .refused .jtagOpcode))

/-- R232: on a rising edge of `tck` the controller goes from its present state to the next, as `tms` says; undriven, it reads 1
(R75). -/
def Obligations.TapTable : Prop :=
  ∀ (s : State) (p : Nat) (k : Package) (tms tdi : Option Bool) (r : List Input), s.packages[p]? = some k →
    ∀ x ∈ [(TapState.testLogicReset, TapState.runTestIdle, TapState.testLogicReset),
        (.runTestIdle, .runTestIdle, .selectDr), (.selectDr, .captureDr, .selectIr), (.captureDr, .shiftDr, .exit1Dr),
        (.shiftDr, .shiftDr, .exit1Dr), (.exit1Dr, .pauseDr, .updateDr), (.pauseDr, .pauseDr, .exit2Dr),
        (.exit2Dr, .shiftDr, .updateDr), (.updateDr, .runTestIdle, .selectDr), (.selectIr, .captureIr, .testLogicReset),
        (.captureIr, .shiftIr, .exit1Ir), (.shiftIr, .shiftIr, .exit1Ir), (.exit1Ir, .pauseIr, .updateIr),
        (.pauseIr, .pauseIr, .exit2Ir), (.exit2Ir, .shiftIr, .updateIr), (.updateIr, .runTestIdle, .selectDr)],
      k.tap.state = x.1 →
        ∃ t k', onEvent s (.tap p (.rise tms tdi)) r = .next t ∧ t.packages[p]? = some k' ∧
          k'.tap.state = if tms = some false then x.2.1 else x.2.2

/-- R236, R245, R24: no event at a TAP touches a register of the package, another package, the bus, the floppy controller or
memory; the processor changes only by starting when its RESET input falls (where extest begins, ends or drives PRST, log
31); and the current instruction changes only at a falling edge in Update-IR or on the way to Test-Logic-Reset. The mark
that a reset is due: R368. -/
def Obligations.TapTouchesItselfOnly : Prop :=
  ∀ (s t : State) (p : Nat) (k : Package) (e : TapEvent) (r : List Input), s.packages[p]? = some k →
    onEvent s (.tap p e) r = .next t →
    ∃ k', t.packages[p]? = some k' ∧
      t = { s.putPackage p { k with tap := k'.tap, needsReset := k'.needsReset, cpu := cpuAfter k k' } with
        fresh := t.fresh, input := r } ∧
      (k'.tap.ir ≠ k.tap.ir → k'.tap.state = .testLogicReset ∨ (e = .fall ∧ k.tap.state = .updateIr))

/-- R240 to R242, R251 to R254: from Test-Logic-Reset, Run-Test/Idle or Select-IR-Scan each JTAG row with an effect ends in Run-Test/Idle with
its opcode current, nothing of the package changed but the TAP, for extest the mark that a reset is due (R368), and the
processor only where the change of the pins starts it (R24, log 31). A row is a whole scan: log 30; the captured bits 3:2:
log 8, log 29. -/
def Obligations.JtagRowsLoad : Prop :=
  ∀ (s : State) (p : Nat) (k : Package), s.packages[p]? = some k →
    k.tap.state ∈ [.testLogicReset, .runTestIdle, .selectIr] →
    ∃ out : List Bool,
      (∀ x ∈ [(Instr.jtagExtest p [], 0b0000#4, true), (.jtagSamplePreload p [], 0b0001#4, false),
          (.jtagIdcode p [], 0b0010#4, false), (.jtagBypass p [], 0b1111#4, false)],
        ∃ k' : Package,
          k' = { k with
            tap := { k.tap with state := .runTestIdle, irShift := x.2.1, ir := x.2.1, scanOut := out }
            needsReset := k.needsReset || x.2.2
            cpu := cpuAfter k k' } ∧
          exec x.1 s = .next { s.putPackage p k' with fresh := s.fresh + 1 }) ∧
      out.take 2 = [true, false] ∧ out.length = 4

/-- R232, R240 to R242: from every state of the controller a JTAG row with an effect first clocks `tms` (`tdi` at 1) along a way of at
most four edges to Select-IR-Scan, with all that these clocks do, and then does what it does there, which the other statements
say. A row is a whole scan, and the way to it is the model's choice: log 30. -/
def Obligations.JtagRowsFromAnywhere : Prop :=
  ∀ (s : State) (p : Nat) (k : Package) (l : List Bool), s.packages[p]? = some k →
    ∃ way : List Bool, way.length ≤ 4 ∧ way.foldl tapNext k.tap.state = .selectIr ∧
      ∀ c ∈ [Instr.jtagExtest, .jtagSamplePreload, .jtagIdcode, .jtagBypass],
        exec (c p l) s = andThen (clockTap p way s) (exec (c p l))

/-- R238, R250, R251, R254: the data scan of idcode puts the device ID 0x1489A013 on `tdo`, bit 0 first, and then the
stream; that of bypass puts a 0 and then the stream, delayed by one (the captured 0 is general knowledge, G4, log 29).
Registers, latched bits and memory stay, and the processor too unless the scan ends an extest (R24, log 31). A row is a
whole scan: log 30; from another state of the controller: `JtagRowsFromAnywhere`. -/
def Obligations.JtagDataScans : Prop :=
  ∀ (s : State) (p : Nat) (k : Package) (l : List Bool), s.packages[p]? = some k →
    k.tap.state ∈ [.testLogicReset, .runTestIdle, .selectIr] → l ≠ [] →
    (∃ t k', exec (.jtagIdcode p l) s = .next t ∧ t.packages[p]? = some k' ∧
      k'.tap.scanOut = (bitsOf 0x1489A013#32 32 ++ l).take l.length ∧ k'.tap.bsrLatch = k.tap.bsrLatch ∧
      t = { s.putPackage p { k with tap := k'.tap, cpu := cpuAfter k k' } with fresh := t.fresh }) ∧
    (∃ t k', exec (.jtagBypass p l) s = .next t ∧ t.packages[p]? = some k' ∧
      k'.tap.scanOut = false :: l.dropLast ∧ k'.tap.bsrLatch = k.tap.bsrLatch ∧
      t = { s.putPackage p { k with tap := k'.tap, cpu := cpuAfter k k' } with fresh := t.fresh })

/-- R253, R239, R245, R260: a sample/preload scan of 137 bits leaves them in the latched parallel output, the bit shifted in
last in cell 1; the bits on `tdo` are the captured cells, cell 137 first: every input and bi-directional cell the level at
its pin, every output cell what the part drives (a tri-stated output as low), where the sources say what it captures; the
pins PINT, PNMI, PRST and ExtINTA are what the part drives, and as they were unless extest was current before; the processor changes only by
starting where the end of that extest lets its RESET input fall (R24, log 31). The order of
some cells is spelled out. A row is a whole scan: log 30; the silent cells (reserved, control, RDY, MBO): U19, log 8, log 29. -/
def Obligations.SamplePreloadScan : Prop :=
  ∀ (s : State) (p : Nat) (k : Package) (l : List Bool), s.packages[p]? = some k →
    k.tap.state ∈ [.testLogicReset, .runTestIdle, .selectIr] → l.length = 137 →
    (∀ x ∈ [(1, Signal.clkin), (8, .reset), (14, .cs), (20, .lintin .lint1), (21, .lintin .lint0), (24, .intin 15),
        (53, .intin 0), (55, .dp 3), (62, .data 31), (104, .data 0), (108, .addr 7), (115, .addr 0), (118, .pint),
        (120, .pnmi), (122, .prst), (124, .extInta)],
      (scanCells[x.1 - 1]?).map (fun c => c.signal) = some x.2) ∧
    ∃ t k', exec (.jtagSamplePreload p l) s = .next t ∧ t.packages[p]? = some k' ∧
      (∀ i : Nat, i < 137 → k'.tap.bsrLatch.getLsbD i = l.getD (136 - i) false) ∧
      k'.tap.scanOut.length = 137 ∧
      (∀ (i : Nat) (c : Cell) (b : Bool), scanCells[i]? = some c → sampledCell k i c.signal = some b →
        k'.tap.scanOut.getD (136 - i) false = b) ∧
      pinPint k' = k.lu.pint ∧ pinPnmi k' = k.lu.pnmi ∧
      pinPrst k' = (if k.lu.prst then .high else .low) ∧ pinExtInta k' = (if k.lu.extInta then .high else .low) ∧
      (k.tap.ir ≠ 0b0000#4 → pinPint k' = pinPint k ∧ pinPnmi k' = pinPnmi k ∧ pinPrst k' = pinPrst k ∧
        pinExtInta k' = pinExtInta k) ∧
      t = { s.putPackage p { k with tap := k'.tap, cpu := cpuAfter k k' } with fresh := t.fresh }

/-- R252, R239, R245, R260, R24, R368: an extest scan of 137 bits: loading the opcode makes the bits latched before drive the pins, the
scan then leaves its own bits in the latched parallel output, the bit shifted in last in cell 1, and they drive the pins from then
on (`ExtestDrivesPins`). The bits on `tdo` are the captured cells, cell 137 first: every input cell the level at its pin, and so
every bi-directional cell that its control cell, as latched before, does not make an output; the others are free values (log 8,
log 29). The package must be reset, its processor starts where its RESET input falls at either change of the pins (log 31), and
nothing else changes. A row is a whole scan: log 30; the enabling level is a parameter (U20). -/
def Obligations.ExtestScan : Prop :=
  ∀ (s : State) (p : Nat) (k : Package) (l : List Bool), s.packages[p]? = some k →
    k.tap.state ∈ [.testLogicReset, .runTestIdle, .selectIr] → l.length = 137 →
    ∃ t k' k1, exec (.jtagExtest p l) s = .next t ∧ t.packages[p]? = some k' ∧
      k'.tap.state = .runTestIdle ∧ k'.tap.ir = 0b0000#4 ∧
      (∀ i : Nat, i < 137 → k'.tap.bsrLatch.getLsbD i = l.getD (136 - i) false) ∧
      k'.tap.scanOut.length = 137 ∧
      (∀ (i : Nat) (c : Cell) (b : Bool), scanCells[i]? = some c → sampledCell k i c.signal = some b →
        c.type = .i ∨ (c.type = .b ∧
          ∃ x ∈ outputCells, x.1 = i + 1 ∧ k.tap.bsrLatch.getLsbD (x.2 - 1) ≠ Config.controlEnables) →
        k'.tap.scanOut.getD (136 - i) false = b) ∧
      k1 = { k with tap := { k.tap with ir := 0b0000#4 }, cpu := cpuAfter k { k with tap := { k.tap with ir := 0b0000#4 } } } ∧
      t = { s.putPackage p { k with tap := k'.tap, needsReset := true, cpu := cpuAfter k1 k' } with fresh := t.fresh }

/-- R245, R252, R24: while extest is current every output pin and every bi-directional pin of a cell with a signal name is
driven with the latched bit of its cell where its control cell enables it, and tri-stated where not; what the part itself would drive is cut off, and the
processor sees the pins: INT and NMI as PINT and PNMI, a tri-stated one as low (R367), RESET as PRST. With another
instruction current the four pins of the local unit are what it drives. The enabling level is a parameter (U20), ExtINTA's
control cell is 125, what RESET reads from a tri-stated PRST is a parameter, and the pins of the reserved cells, whose drive is not stated
(U19), have no level in the model: log 31. -/
def Obligations.ExtestDrivesPins : Prop :=
  ∀ k : Package,
    (k.tap.ir = 0b0000#4 → ∀ x ∈ outputCells, ∃ c, scanCells[x.1 - 1]? = some c ∧
      pinLevel k (x.1 - 1) c.signal = some
        (if k.tap.bsrLatch.getLsbD (x.2 - 1) = Config.controlEnables then
          (if k.tap.bsrLatch.getLsbD (x.1 - 1) then .high else .low)
        else .z)) ∧
    (k.tap.ir ≠ 0b0000#4 → pinLevel k 117 .pint = some k.lu.pint ∧ pinLevel k 119 .pnmi = some k.lu.pnmi ∧
      pinLevel k 121 .prst = some (if k.lu.prst then .high else .low) ∧
      pinLevel k 123 .extInta = some (if k.lu.extInta then .high else .low)) ∧
    (cpuInt k = true ↔ pinLevel k 117 .pint = some .high) ∧
    (cpuNmi k = true ↔ pinLevel k 119 .pnmi = some .high) ∧
    (pinLevel k 121 .prst ≠ some .z → (cpuReset k = true ↔ pinLevel k 121 .prst = some .high))

/-- R368, R252, U16: after an extest row, whatever stream it shifts, every access that is not posted to a register of the package's
local unit, by its own processor, or of its I/O unit, by any processor, is refused, and every command; so are an acknowledge its
processor starts and the second cycle of one, and the sending of a message that the package has waiting. While the scan path holds
its RESET input high (log 31) its processor issues nothing instead (R24). What a processor does elsewhere is not refused: the
statements about I/O units and memory hold for it too, and for its posted writes `DrainsOldestFirst`. That the mark stays until a
hardware reset is `ResetDueStays`, and that a hardware reset lifts it is `HardwareReset`. A row is a whole scan: log 30. -/
def Obligations.ExtestNeedsReset : Prop :=
  ∀ (s : State) (p : Nat) (k : Package) (l : List Bool) (sel : BitVec 6) (i : Byte) (a : Access), s.packages[p]? = some k →
    k.tap.state ∈ [.testLogicReset, .runTestIdle, .selectIr] → (∀ v, a ≠ .write v true) →
    ∃ t k', exec (.jtagExtest p l) s = .next t ∧ t.packages[p]? = some k' ∧
      (k.hasCpu = true → k.cpu.pageUncached = true → k.cpu.wbuf = [] →
        (let used : Res := if cpuHeld k' then .next t else .refused .needsHardwareReset
         exec (localInstr sel p a) t = used ∧
         (p < s.platform.ious.length → exec (ioInstr sel p p a) t = used ∧ exec (indexInstr i p p a) t = used) ∧
         (∀ (f : CommandFields), ∀ c ∈ [Instr.msgFixed, .msgLowestPriority, .msgRemoteRead, .msgNmi, .msgReset, .msgExtint],
           exec (c p f) t = used) ∧
         ∀ (ext : Byte) (r : List Input),
           (onEvent t (.intaFirst p) r =
             if cpuHeld k' = false ∧ cpuInt k' = true ∧ k'.cpu.intrEnabled = true then .refused .needsHardwareReset
             else .next { t with input := r }) ∧
           (onEvent t (.intaSecond p ext) r =
             if k.lu.intaPhase = .afterFirst then .refused .needsHardwareReset else .next { t with input := r }))) ∧
      (∀ (q : Nat) (kq : Package), q ≠ p → p < s.platform.ious.length → IoBusReady s q p kq → kq.cpu.wbuf = [] →
        exec (ioInstr sel q p a) t = .refused .needsHardwareReset ∧
        exec (indexInstr i q p a) t = .refused .needsHardwareReset) ∧
      ∀ (j : Nat) (m : Message) (r : List Input), s.icc.carried = none → s.icc.queue[j]? = some m →
        m.source = .local p ∨ (∃ x, m.source = .io p x) →
        onEvent t (.arbitrate j) r = .refused .needsHardwareReset

/-- R368: the mark that a package must be reset stays under every step but a hardware reset of that package. -/
def Obligations.ResetDueStays : Prop :=
  ∀ (s t : State) (p : Nat) (k : Package), s.packages[p]? = some k → k.needsReset = true →
    (∀ r, s.input ≠ .event (.resetAssert p) :: r) → step s = .next t →
    ∃ k', t.packages[p]? = some k' ∧ k'.needsReset = true

/-! ### Floppy controller -/

/-- R281, R283, R292, R293, R76: the perpendicular mode command, given to a controller that waits for a command, stores GAP and WGATE,
and the drive bits if OW is set; bit 6 is ignored (U8); the DUMPREG byte read after it shows the stored bits below two free bits
(U17, log 8; that it may be read at any time: log 34); nothing else changes. In every phase, byte by byte: a first byte 0x12 makes
the next byte the second of the command, which alone stores; any other byte belongs to a command that is not in the sources, and
stores nothing, whether or not it is that command's last (a free value). Given to a controller that waits for the second byte, the
command's 0x12 is taken as that one, and its second byte as the next first one. A software reset clears GAP and WGATE and keeps the
drive bits; a hardware reset clears all six; what else they do is the model's choice: the controller waits for a command, and
data rate, drive and precompensation stay. What is the model's here: log 33. -/
def Obligations.PerpendicularCommand : Prop :=
  ∀ (s : State) (b : Byte) (r : List Input),
    ∃ pr : PerpBits,
      pr = { d3 := if b.getLsbD 7 then b.getLsbD 5 else s.fdc.pr.d3
             d2 := if b.getLsbD 7 then b.getLsbD 4 else s.fdc.pr.d2
             d1 := if b.getLsbD 7 then b.getLsbD 3 else s.fdc.pr.d1
             d0 := if b.getLsbD 7 then b.getLsbD 2 else s.fdc.pr.d0
             gap := b.getLsbD 1
             wgate := b.getLsbD 0 } ∧
      (s.fdc.phase = .command →
        exec (.fdcPerpendicularMode b) s = .next { s with fdc := { s.fdc with pr := pr } }) ∧
      (s.fdc.phase = .parameter →
        ∃ t, exec (.fdcPerpendicularMode b) s = .next t ∧
          t = { s with
            fdc := { s.fdc with pr := { s.fdc.pr with gap := true, wgate := false }, phase := t.fdc.phase }
            fresh := t.fresh } ∧
          (t.fdc.phase = .parameter ↔ b = 0x12#8)) ∧
      (s.fdc.phase = .other →
        ∃ t, exec (.fdcPerpendicularMode b) s = .next t ∧
          t = { s with fdc := { s.fdc with phase := t.fdc.phase }, fresh := t.fresh }) ∧
      (∃ x : Byte,
        exec .fdcDumpregResult8 { s with fdc := { s.fdc with pr := pr } } =
          .next { s with fdc := { s.fdc with pr := pr, result := x }, fresh := s.fresh + 1 } ∧
        bitsOf x 6 = [pr.wgate, pr.gap, pr.d0, pr.d1, pr.d2, pr.d3]) ∧
      (s.fdc.phase = .command → b = 0x12#8 →
        onEvent s (.fifoWrite b) r = .next { s with fdc := { s.fdc with phase := .parameter }, input := r }) ∧
      ((s.fdc.phase = .command ∧ b ≠ 0x12#8) ∨ s.fdc.phase = .other →
        ∃ ph : FdcPhase, ph ≠ .parameter ∧
          onEvent s (.fifoWrite b) r = .next { s with fdc := { s.fdc with phase := ph }, fresh := s.fresh + 1, input := r }) ∧
      (s.fdc.phase = .parameter →
        onEvent s (.fifoWrite b) r = .next { s with fdc := { s.fdc with pr := pr, phase := .command }, input := r }) ∧
      onEvent s .fdcSoftwareReset r =
        .next { s with
          fdc := { s.fdc with pr := { s.fdc.pr with gap := false, wgate := false }, phase := .command }, input := r } ∧
      onEvent s .fdcHardwareReset r =
        .next { s with
          fdc := { s.fdc with pr := ⟨false, false, false, false, false, false⟩, phase := .command }, input := r }

/-- R284 to R289: the configuration of a data transfer: Gap2 is 41 bytes exactly with GAP and WGATE both set, or with
both clear, the drive's bit set and 1 Mbps, else 22; then 38 bytes of it are rewritten and the VCO waits 43 bytes;
else 19 bytes where the row is '01', or 0, and 24 bytes; precompensation is forced to 0 exactly in the enhanced mode.
The 19 bytes of the enhanced mode at 250 and 300 kbps are a decision taken over, log 33. -/
def Obligations.TransferConfiguration : Prop :=
  ∀ (s : State) (t : Transfer) (d : BitVec 2) (r : List Input),
    ∃ c : TransferConfig,
      onEvent s (.fdcTransfer t d) r = .next { s with fdc := { s.fdc with drive := d, config := c }, input := r } ∧
      (let pr := s.fdc.pr
       let enhanced := pr.gap = false ∧ pr.wgate = false ∧ driveBit pr d = true
       (c.gap2Format = 41 ↔ (pr.gap = true ∧ pr.wgate = true) ∨ (enhanced ∧ s.fdc.rate = .mbps1)) ∧
       (c.gap2Format = 41 ∨ c.gap2Format = 22) ∧
       (c.gap2Format = 41 → c.gap2Written = 38 ∧ c.vcoRead = 43) ∧
       (c.gap2Format = 22 → c.vcoRead = 24 ∧
         (c.gap2Written = 19 ↔ (pr.gap = false ∧ pr.wgate = true) ∨ (enhanced ∧ s.fdc.rate ≠ .mbps1)) ∧
         (c.gap2Written = 19 ∨ c.gap2Written = 0)) ∧
       (c.precompForcedOff = true ↔ enhanced) ∧
       (c.precomp = if c.precompForcedOff then 0 else s.fdc.precomp) ∧ c.vcoAfterIndex = 33)

/-! ### Memory -/

/-- R84, R81, R91, R93: the 1, 2 or 4 bytes that a processor writes to memory at any address read back to it, byte by byte with the
least significant at the lowest address (addresses wrap at 2^32; a read of 1 or 2 bytes gives 0 above them), and every other byte
keeps its value (byte order: D3; the edges, a misaligned cycle, and that there is memory at every such address: log 9); every
other processor sees none of the bytes yet. Each byte comes into the sight of each of them by a step of its own, in any order
(the spec gives no order, N39; that the views are separate is the model's choice, log 44), and changes that byte and no other. -/
def Obligations.MemoryViews : Prop :=
  (∀ (s : State) (p : Nat) (k : Package) (a v : Word) (w : Width) (b : Bool) (r : List Input), s.packages[p]? = some k →
    k.hasCpu = true → cpuHeld k = false → Memory.wf k.view = true →
    (∀ i : Nat, i < widthBytes w → addressTarget s.platform .memory (a + BitVec.ofNat 32 i) = .outside) →
    ∃ t t' view l, onCycle s ⟨.bus, p, 0, w, .write v b, a, []⟩ (.op ⟨.bus, p, 0, w, .read, a, []⟩ :: r) = .next t ∧
      t = { s.putPackage p { k with view := view } with
        unseen := s.unseen ++ l, input := .op ⟨.bus, p, 0, w, .read, a, []⟩ :: r } ∧
      (∀ i : Nat, i < widthBytes w → memRead view (a + BitVec.ofNat 32 i).toNat = v.extractLsb' (8 * i) 8) ∧
      (∀ x : Nat, (∀ i : Nat, i < widthBytes w → x ≠ (a + BitVec.ofNat 32 i).toNat) →
        memRead view x = memRead k.view x) ∧
      (∀ x : Store, x ∈ l ↔ ∃ (q : Nat) (kq : Package) (i : Nat), q ≠ p ∧ s.packages[q]? = some kq ∧ kq.hasCpu = true ∧
        i < widthBytes w ∧ x = ⟨q, a + BitVec.ofNat 32 i, v.extractLsb' (8 * i) 8⟩) ∧
      step t = .next t' ∧
      t' = { s.putPackage p
          { k with
            view := view
            cpu := { k.cpu with data := (v.extractLsb' 0 (8 * widthBytes w)).setWidth 32 } } with
        unseen := s.unseen ++ l, input := r }) ∧
  (∀ (s : State) (i : Nat) (x : Store) (k : Package) (r : List Input), s.unseen[i]? = some x →
    s.packages[x.observer]? = some k → Memory.wf k.view = true →
    ∃ view, onEvent s (.storeSeen i) r =
        .next { s.putPackage x.observer { k with view := view } with unseen := s.unseen.eraseIdx i, input := r } ∧
      ∀ b : Nat, memRead view b = if b = x.addr.toNat then x.byte else memRead k.view b)

/-- R83, R95, R299, U3: cycles that stand for no row of the table. In a page of an 82489DX (mapped uncached, where it is in memory space)
one that is not 32 bits wide or not at a multiple of 16 stops the run, and so does one outside the pages that runs into a page
(log 9). In I/O space outside the pages one that reaches a port of the floppy controller, 0x3F0 to 0x3F7 or 0x370 to 0x377 as
ADDSEL says with only bits 9 to 3 decoded, is refused, because which register a port is is not in the sources (N50), and so is any
other (N48; log 36); the size of the space: log 45. Cycles in memory space outside the pages: `MemoryViews`. -/
def Obligations.OtherCycles : Prop :=
  ∀ (s : State) (p : Nat) (k : Package) (c : Cycle) (sp : Space) (r : List Input), s.packages[p]? = some k → k.hasCpu = true →
    cpuHeld k = false → c.agent = p → c.port = spacePort sp →
    (addressTarget s.platform sp c.word ≠ .outside → c.width ≠ .dword ∨ c.word.extractLsb' 0 4 ≠ 0#4 →
      (sp = .memory → k.cpu.pageUncached = true) →
      onCycle s c r = .fault .partialOrOffsetAccess) ∧
    (addressTarget s.platform sp c.word = .outside →
      ((∃ i : Nat, i < widthBytes c.width ∧ addressTarget s.platform sp (c.word + BitVec.ofNat 32 i) ≠ .outside) →
        onCycle s c r = .fault .partialOrOffsetAccess) ∧
      ((∀ i : Nat, i < widthBytes c.width → addressTarget s.platform sp (c.word + BitVec.ofNat 32 i) = .outside) →
        sp = .io →
        onCycle s c r =
          if ∃ i : Nat, i < widthBytes c.width ∧ (c.word + BitVec.ofNat 32 i).extractLsb' 3 7 =
              (if s.platform.addsel then 0b1111110#7 else 0b1101110#7) then
            .refused .floppyPortUnassigned
          else .refused .ioPortOutsideSpec))
end

