-- ==== Sys2Proof/Laws/Memory.lean ====
section
/-! SUPPORT. Memory: reading after a write, and every memory operation keeps the canonical form. -/

set_option Elab.async false

namespace Sys2Proof.Machine

/-- A byte below every listed address reads 0. -/
theorem memRead_below {m : List Host.Cell} {lo a : Nat} (h : wfFrom lo m = true) (ha : a < lo) : memRead m a = 0#8 := by
  induction m generalizing lo with
  | nil => rfl
  | cons c r ih =>
    obtain ⟨b, w⟩ := c
    simp only [wfFrom, Bool.and_eq_true, decide_eq_true_eq] at h
    have hb : a ≠ b := by omega
    simp [memRead, hb, ih h.2 (by omega)]

/-- What every address reads after a write. -/
theorem memRead_memWrite {m : List Host.Cell} {lo : Nat} (h : wfFrom lo m = true) (a b : Nat) (v : Byte) :
    memRead (memWrite m a v) b = if b = a then v else memRead m b := by
  induction m generalizing lo with
  | nil => by_cases hv : v = 0#8 <;> by_cases hb : b = a <;> simp [memWrite, memRead, hv, hb]
  | cons c r ih =>
    obtain ⟨d, w⟩ := c
    have hw := h
    simp only [wfFrom, Bool.and_eq_true, decide_eq_true_eq] at hw
    obtain ⟨⟨⟨_, _⟩, _⟩, hr⟩ := hw
    unfold memWrite
    by_cases h1 : a < d
    · rw [if_pos h1]
      by_cases hv : v = 0#8
      · rw [if_pos hv, hv]
        by_cases hb : b = a
        · subst hb
          have : b ≠ d := by omega
          simp [memRead, this, memRead_below hr (show b < d + 1 by omega)]
        · simp [hb]
      · rw [if_neg hv]; simp [memRead]
    · rw [if_neg h1]
      by_cases h2 : a = d
      · subst h2
        rw [if_pos rfl]
        by_cases hv : v = 0#8
        · rw [if_pos hv, hv]
          by_cases hb : b = a
          · subst hb; simp [memRead_below hr (show b < b + 1 by omega)]
          · simp [memRead, hb]
        · rw [if_neg hv]; by_cases hb : b = a <;> simp [memRead, hb]
      · rw [if_neg h2]
        simp only [memRead, ih hr]
        by_cases hb : b = d
        · subst hb; simp [show b ≠ a by omega]
        · simp [hb]

/-- A write inside the address space keeps the canonical form. -/
theorem wfFrom_memWrite {m : List Host.Cell} {lo a : Nat} (h : wfFrom lo m = true) (hlo : lo ≤ a) (ha : a < 2 ^ 32)
    (v : Byte) : wfFrom lo (memWrite m a v) = true := by
  induction m generalizing lo with
  | nil => by_cases hv : v = 0#8 <;> simp [memWrite, wfFrom, hv, hlo, ha, -Nat.reducePow]
  | cons c r ih =>
    obtain ⟨d, w⟩ := c
    simp only [wfFrom, Bool.and_eq_true, decide_eq_true_eq] at h
    obtain ⟨⟨⟨h1, h2⟩, h3⟩, hr⟩ := h
    unfold memWrite
    by_cases g1 : a < d
    · rw [if_pos g1]
      by_cases hv : v = 0#8
      · simp [hv, wfFrom, h1, h2, h3, hr, -Nat.reducePow]
      · rw [if_neg hv]
        simp only [wfFrom, Bool.and_eq_true, decide_eq_true_eq]
        exact ⟨⟨⟨hlo, ha⟩, by simpa using hv⟩, ⟨⟨by omega, h2⟩, h3⟩, hr⟩
    · rw [if_neg g1]
      by_cases g2 : a = d
      · subst g2
        rw [if_pos rfl]
        by_cases hv : v = 0#8
        · rw [if_pos hv]
          clear ih
          cases r with
          | nil => rfl
          | cons c' r' =>
            obtain ⟨d', w'⟩ := c'
            simp only [wfFrom, Bool.and_eq_true, decide_eq_true_eq] at hr ⊢
            exact ⟨⟨⟨by omega, hr.1.1.2⟩, hr.1.2⟩, hr.2⟩
        · rw [if_neg hv]
          simp only [wfFrom, Bool.and_eq_true, decide_eq_true_eq]
          exact ⟨⟨⟨hlo, ha⟩, by simpa using hv⟩, hr⟩
      · rw [if_neg g2]
        simp only [wfFrom, Bool.and_eq_true, decide_eq_true_eq]
        exact ⟨⟨⟨h1, h2⟩, h3⟩, ih hr (by omega)⟩

/-- A write of several bytes keeps the canonical form. -/
theorem wf_writeBytes {m : List Host.Cell} (h : Memory.wf m = true) (v : Nat) (l : List Word) :
    Memory.wf (writeBytes m v l) = true := by
  induction l generalizing m v with
  | nil => exact h
  | cons a r ih => exact ih (wfFrom_memWrite h (Nat.zero_le _) a.isLt _) _

/-- A write of several bytes leaves every byte outside them as it was. -/
theorem memRead_writeBytes_outside {m : List Host.Cell} (h : Memory.wf m = true) (v : Nat) (l : List Word) (b : Nat)
    (hb : ∀ a ∈ l, a.toNat ≠ b) : memRead (writeBytes m v l) b = memRead m b := by
  induction l generalizing m v with
  | nil => rfl
  | cons a r ih =>
    rw [writeBytes, ih (wfFrom_memWrite h (Nat.zero_le _) a.isLt _) _ fun x hx => hb x (List.mem_cons_of_mem _ hx),
      memRead_memWrite h, if_neg (fun e => hb a List.mem_cons_self e.symm)]

end Sys2Proof.Machine
end

