-- ==== Sys2Proof/Laws/State.lean ====
section
/-!
SUPPORT. One lemma for each field of the state and each named update of it, all true by definition, and what package `q`
is after an update of package `p`.
-/

set_option Elab.async false

namespace Sys2Proof.Machine

/-! ### `modifyPackage` -/

@[simp] theorem modifyPackage_icc (s : State) (p : Nat) (f : Package → Package) : (modifyPackage s p f).icc = s.icc := rfl
@[simp] theorem modifyPackage_fdc (s : State) (p : Nat) (f : Package → Package) : (modifyPackage s p f).fdc = s.fdc := rfl
@[simp] theorem modifyPackage_unseen (s : State) (p : Nat) (f : Package → Package) : (modifyPackage s p f).unseen = s.unseen := rfl
@[simp] theorem modifyPackage_platform (s : State) (p : Nat) (f : Package → Package) : (modifyPackage s p f).platform = s.platform := rfl
@[simp] theorem modifyPackage_fresh (s : State) (p : Nat) (f : Package → Package) : (modifyPackage s p f).fresh = s.fresh := rfl
@[simp] theorem modifyPackage_flagged (s : State) (p : Nat) (f : Package → Package) : (modifyPackage s p f).flagged = s.flagged := rfl
@[simp] theorem modifyPackage_input (s : State) (p : Nat) (f : Package → Package) : (modifyPackage s p f).input = s.input := rfl

/-! ### `modifyLocal` -/

@[simp] theorem modifyLocal_icc (s : State) (p : Nat) (f : LocalUnit → LocalUnit) : (modifyLocal s p f).icc = s.icc := rfl
@[simp] theorem modifyLocal_fdc (s : State) (p : Nat) (f : LocalUnit → LocalUnit) : (modifyLocal s p f).fdc = s.fdc := rfl
@[simp] theorem modifyLocal_unseen (s : State) (p : Nat) (f : LocalUnit → LocalUnit) : (modifyLocal s p f).unseen = s.unseen := rfl
@[simp] theorem modifyLocal_platform (s : State) (p : Nat) (f : LocalUnit → LocalUnit) : (modifyLocal s p f).platform = s.platform := rfl
@[simp] theorem modifyLocal_fresh (s : State) (p : Nat) (f : LocalUnit → LocalUnit) : (modifyLocal s p f).fresh = s.fresh := rfl
@[simp] theorem modifyLocal_flagged (s : State) (p : Nat) (f : LocalUnit → LocalUnit) : (modifyLocal s p f).flagged = s.flagged := rfl
@[simp] theorem modifyLocal_input (s : State) (p : Nat) (f : LocalUnit → LocalUnit) : (modifyLocal s p f).input = s.input := rfl

/-! ### `modifyIo` -/

@[simp] theorem modifyIo_icc (s : State) (p : Nat) (f : IoUnit → IoUnit) : (modifyIo s p f).icc = s.icc := rfl
@[simp] theorem modifyIo_fdc (s : State) (p : Nat) (f : IoUnit → IoUnit) : (modifyIo s p f).fdc = s.fdc := rfl
@[simp] theorem modifyIo_unseen (s : State) (p : Nat) (f : IoUnit → IoUnit) : (modifyIo s p f).unseen = s.unseen := rfl
@[simp] theorem modifyIo_platform (s : State) (p : Nat) (f : IoUnit → IoUnit) : (modifyIo s p f).platform = s.platform := rfl
@[simp] theorem modifyIo_fresh (s : State) (p : Nat) (f : IoUnit → IoUnit) : (modifyIo s p f).fresh = s.fresh := rfl
@[simp] theorem modifyIo_flagged (s : State) (p : Nat) (f : IoUnit → IoUnit) : (modifyIo s p f).flagged = s.flagged := rfl
@[simp] theorem modifyIo_input (s : State) (p : Nat) (f : IoUnit → IoUnit) : (modifyIo s p f).input = s.input := rfl

/-! ### `modifyCpu` -/

@[simp] theorem modifyCpu_icc (s : State) (p : Nat) (f : Cpu → Cpu) : (modifyCpu s p f).icc = s.icc := rfl
@[simp] theorem modifyCpu_fdc (s : State) (p : Nat) (f : Cpu → Cpu) : (modifyCpu s p f).fdc = s.fdc := rfl
@[simp] theorem modifyCpu_unseen (s : State) (p : Nat) (f : Cpu → Cpu) : (modifyCpu s p f).unseen = s.unseen := rfl
@[simp] theorem modifyCpu_platform (s : State) (p : Nat) (f : Cpu → Cpu) : (modifyCpu s p f).platform = s.platform := rfl
@[simp] theorem modifyCpu_fresh (s : State) (p : Nat) (f : Cpu → Cpu) : (modifyCpu s p f).fresh = s.fresh := rfl
@[simp] theorem modifyCpu_flagged (s : State) (p : Nat) (f : Cpu → Cpu) : (modifyCpu s p f).flagged = s.flagged := rfl
@[simp] theorem modifyCpu_input (s : State) (p : Nat) (f : Cpu → Cpu) : (modifyCpu s p f).input = s.input := rfl

/-! ### `returnData` -/

@[simp] theorem returnData_icc (s : State) (p : Nat) (w : Word) : (returnData s p w).icc = s.icc := rfl
@[simp] theorem returnData_fdc (s : State) (p : Nat) (w : Word) : (returnData s p w).fdc = s.fdc := rfl
@[simp] theorem returnData_unseen (s : State) (p : Nat) (w : Word) : (returnData s p w).unseen = s.unseen := rfl
@[simp] theorem returnData_platform (s : State) (p : Nat) (w : Word) : (returnData s p w).platform = s.platform := rfl
@[simp] theorem returnData_fresh (s : State) (p : Nat) (w : Word) : (returnData s p w).fresh = s.fresh := rfl
@[simp] theorem returnData_flagged (s : State) (p : Nat) (w : Word) : (returnData s p w).flagged = s.flagged := rfl
@[simp] theorem returnData_input (s : State) (p : Nat) (w : Word) : (returnData s p w).input = s.input := rfl

/-! ### `returnVector` -/

@[simp] theorem returnVector_icc (s : State) (p : Nat) (v : Byte) : (returnVector s p v).icc = s.icc := rfl
@[simp] theorem returnVector_fdc (s : State) (p : Nat) (v : Byte) : (returnVector s p v).fdc = s.fdc := rfl
@[simp] theorem returnVector_unseen (s : State) (p : Nat) (v : Byte) : (returnVector s p v).unseen = s.unseen := rfl
@[simp] theorem returnVector_platform (s : State) (p : Nat) (v : Byte) : (returnVector s p v).platform = s.platform := rfl
@[simp] theorem returnVector_fresh (s : State) (p : Nat) (v : Byte) : (returnVector s p v).fresh = s.fresh := rfl
@[simp] theorem returnVector_flagged (s : State) (p : Nat) (v : Byte) : (returnVector s p v).flagged = s.flagged := rfl
@[simp] theorem returnVector_input (s : State) (p : Nat) (v : Byte) : (returnVector s p v).input = s.input := rfl

/-! ### `setBuffer` -/

@[simp] theorem setBuffer_icc (s : State) (p : Nat) (l : List (Word × Word)) : (setBuffer s p l).icc = s.icc := rfl
@[simp] theorem setBuffer_fdc (s : State) (p : Nat) (l : List (Word × Word)) : (setBuffer s p l).fdc = s.fdc := rfl
@[simp] theorem setBuffer_unseen (s : State) (p : Nat) (l : List (Word × Word)) : (setBuffer s p l).unseen = s.unseen := rfl
@[simp] theorem setBuffer_platform (s : State) (p : Nat) (l : List (Word × Word)) : (setBuffer s p l).platform = s.platform := rfl
@[simp] theorem setBuffer_fresh (s : State) (p : Nat) (l : List (Word × Word)) : (setBuffer s p l).fresh = s.fresh := rfl
@[simp] theorem setBuffer_flagged (s : State) (p : Nat) (l : List (Word × Word)) : (setBuffer s p l).flagged = s.flagged := rfl
@[simp] theorem setBuffer_input (s : State) (p : Nat) (l : List (Word × Word)) : (setBuffer s p l).input = s.input := rfl

/-! ### `storeIcrLow` -/

@[simp] theorem storeIcrLow_icc (s : State) (p : Nat) (w : Word) : (storeIcrLow s p w).icc = s.icc := rfl
@[simp] theorem storeIcrLow_fdc (s : State) (p : Nat) (w : Word) : (storeIcrLow s p w).fdc = s.fdc := rfl
@[simp] theorem storeIcrLow_unseen (s : State) (p : Nat) (w : Word) : (storeIcrLow s p w).unseen = s.unseen := rfl
@[simp] theorem storeIcrLow_platform (s : State) (p : Nat) (w : Word) : (storeIcrLow s p w).platform = s.platform := rfl
@[simp] theorem storeIcrLow_fresh (s : State) (p : Nat) (w : Word) : (storeIcrLow s p w).fresh = s.fresh := rfl
@[simp] theorem storeIcrLow_flagged (s : State) (p : Nat) (w : Word) : (storeIcrLow s p w).flagged = s.flagged := rfl
@[simp] theorem storeIcrLow_input (s : State) (p : Nat) (w : Word) : (storeIcrLow s p w).input = s.input := rfl

/-! ### `releaseByMessage` -/

@[simp] theorem releaseByMessage_icc (s : State) (p : Nat) : (releaseByMessage s p).icc = s.icc := rfl
@[simp] theorem releaseByMessage_fdc (s : State) (p : Nat) : (releaseByMessage s p).fdc = s.fdc := rfl
@[simp] theorem releaseByMessage_unseen (s : State) (p : Nat) : (releaseByMessage s p).unseen = s.unseen := rfl
@[simp] theorem releaseByMessage_platform (s : State) (p : Nat) : (releaseByMessage s p).platform = s.platform := rfl
@[simp] theorem releaseByMessage_fresh (s : State) (p : Nat) : (releaseByMessage s p).fresh = s.fresh := rfl
@[simp] theorem releaseByMessage_flagged (s : State) (p : Nat) : (releaseByMessage s p).flagged = s.flagged := rfl
@[simp] theorem releaseByMessage_input (s : State) (p : Nat) : (releaseByMessage s p).input = s.input := rfl

/-! ### `synchroniseArbIds` -/

@[simp] theorem synchroniseArbIds_icc (s : State) : (synchroniseArbIds s).icc = s.icc := rfl
@[simp] theorem synchroniseArbIds_fdc (s : State) : (synchroniseArbIds s).fdc = s.fdc := rfl
@[simp] theorem synchroniseArbIds_unseen (s : State) : (synchroniseArbIds s).unseen = s.unseen := rfl
@[simp] theorem synchroniseArbIds_platform (s : State) : (synchroniseArbIds s).platform = s.platform := rfl
@[simp] theorem synchroniseArbIds_fresh (s : State) : (synchroniseArbIds s).fresh = s.fresh := rfl
@[simp] theorem synchroniseArbIds_flagged (s : State) : (synchroniseArbIds s).flagged = s.flagged := rfl
@[simp] theorem synchroniseArbIds_input (s : State) : (synchroniseArbIds s).input = s.input := rfl

/-! ### `modifyTap` -/

@[simp] theorem modifyTap_icc (s : State) (p : Nat) (f : Package → Tap) : (modifyTap s p f).icc = s.icc := rfl
@[simp] theorem modifyTap_fdc (s : State) (p : Nat) (f : Package → Tap) : (modifyTap s p f).fdc = s.fdc := rfl
@[simp] theorem modifyTap_unseen (s : State) (p : Nat) (f : Package → Tap) : (modifyTap s p f).unseen = s.unseen := rfl
@[simp] theorem modifyTap_platform (s : State) (p : Nat) (f : Package → Tap) : (modifyTap s p f).platform = s.platform := rfl
@[simp] theorem modifyTap_fresh (s : State) (p : Nat) (f : Package → Tap) : (modifyTap s p f).fresh = s.fresh := rfl
@[simp] theorem modifyTap_flagged (s : State) (p : Nat) (f : Package → Tap) : (modifyTap s p f).flagged = s.flagged := rfl
@[simp] theorem modifyTap_input (s : State) (p : Nat) (f : Package → Tap) : (modifyTap s p f).input = s.input := rfl

/-! ### `memoryStore` -/

@[simp] theorem memoryStore_icc (p v : Nat) (l : List Word) (s : State) : (memoryStore p v l s).icc = s.icc := rfl
@[simp] theorem memoryStore_fdc (p v : Nat) (l : List Word) (s : State) : (memoryStore p v l s).fdc = s.fdc := rfl
@[simp] theorem memoryStore_platform (p v : Nat) (l : List Word) (s : State) : (memoryStore p v l s).platform = s.platform := rfl
@[simp] theorem memoryStore_fresh (p v : Nat) (l : List Word) (s : State) : (memoryStore p v l s).fresh = s.fresh := rfl
@[simp] theorem memoryStore_flagged (p v : Nat) (l : List Word) (s : State) : (memoryStore p v l s).flagged = s.flagged := rfl
@[simp] theorem memoryStore_input (p v : Nat) (l : List Word) (s : State) : (memoryStore p v l s).input = s.input := rfl

/-! ### `flagReserved` -/

@[simp] theorem flagReserved_packages (s : State) : (flagReserved s).packages = s.packages := rfl
@[simp] theorem flagReserved_icc (s : State) : (flagReserved s).icc = s.icc := rfl
@[simp] theorem flagReserved_fdc (s : State) : (flagReserved s).fdc = s.fdc := rfl
@[simp] theorem flagReserved_unseen (s : State) : (flagReserved s).unseen = s.unseen := rfl
@[simp] theorem flagReserved_platform (s : State) : (flagReserved s).platform = s.platform := rfl
@[simp] theorem flagReserved_fresh (s : State) : (flagReserved s).fresh = s.fresh := rfl
@[simp] theorem flagReserved_input (s : State) : (flagReserved s).input = s.input := rfl

/-! ### `sendMessage` -/

@[simp] theorem sendMessage_packages (s : State) (m : Message) : (sendMessage s m).packages = s.packages := rfl
@[simp] theorem sendMessage_fdc (s : State) (m : Message) : (sendMessage s m).fdc = s.fdc := rfl
@[simp] theorem sendMessage_unseen (s : State) (m : Message) : (sendMessage s m).unseen = s.unseen := rfl
@[simp] theorem sendMessage_platform (s : State) (m : Message) : (sendMessage s m).platform = s.platform := rfl
@[simp] theorem sendMessage_fresh (s : State) (m : Message) : (sendMessage s m).fresh = s.fresh := rfl
@[simp] theorem sendMessage_flagged (s : State) (m : Message) : (sendMessage s m).flagged = s.flagged := rfl
@[simp] theorem sendMessage_input (s : State) (m : Message) : (sendMessage s m).input = s.input := rfl

/-! ### `keepMessages` -/

@[simp] theorem keepMessages_packages (s : State) (g : Source → Bool) : (keepMessages s g).packages = s.packages := rfl
@[simp] theorem keepMessages_fdc (s : State) (g : Source → Bool) : (keepMessages s g).fdc = s.fdc := rfl
@[simp] theorem keepMessages_unseen (s : State) (g : Source → Bool) : (keepMessages s g).unseen = s.unseen := rfl
@[simp] theorem keepMessages_platform (s : State) (g : Source → Bool) : (keepMessages s g).platform = s.platform := rfl
@[simp] theorem keepMessages_fresh (s : State) (g : Source → Bool) : (keepMessages s g).fresh = s.fresh := rfl
@[simp] theorem keepMessages_flagged (s : State) (g : Source → Bool) : (keepMessages s g).flagged = s.flagged := rfl
@[simp] theorem keepMessages_input (s : State) (g : Source → Bool) : (keepMessages s g).input = s.input := rfl

/-! ### `consumeInput` -/

@[simp] theorem consumeInput_packages (s : State) : (consumeInput s).packages = s.packages := rfl
@[simp] theorem consumeInput_icc (s : State) : (consumeInput s).icc = s.icc := rfl
@[simp] theorem consumeInput_fdc (s : State) : (consumeInput s).fdc = s.fdc := rfl
@[simp] theorem consumeInput_unseen (s : State) : (consumeInput s).unseen = s.unseen := rfl
@[simp] theorem consumeInput_platform (s : State) : (consumeInput s).platform = s.platform := rfl
@[simp] theorem consumeInput_fresh (s : State) : (consumeInput s).fresh = s.fresh := rfl
@[simp] theorem consumeInput_flagged (s : State) : (consumeInput s).flagged = s.flagged := rfl

/-! ### `fdcSoftwareReset` -/

@[simp] theorem fdcSoftwareReset_packages (s : State) : (fdcSoftwareReset s).packages = s.packages := rfl
@[simp] theorem fdcSoftwareReset_icc (s : State) : (fdcSoftwareReset s).icc = s.icc := rfl
@[simp] theorem fdcSoftwareReset_unseen (s : State) : (fdcSoftwareReset s).unseen = s.unseen := rfl
@[simp] theorem fdcSoftwareReset_platform (s : State) : (fdcSoftwareReset s).platform = s.platform := rfl
@[simp] theorem fdcSoftwareReset_fresh (s : State) : (fdcSoftwareReset s).fresh = s.fresh := rfl
@[simp] theorem fdcSoftwareReset_flagged (s : State) : (fdcSoftwareReset s).flagged = s.flagged := rfl
@[simp] theorem fdcSoftwareReset_input (s : State) : (fdcSoftwareReset s).input = s.input := rfl

/-! ### `fdcHardwareReset` -/

@[simp] theorem fdcHardwareReset_packages (s : State) : (fdcHardwareReset s).packages = s.packages := rfl
@[simp] theorem fdcHardwareReset_icc (s : State) : (fdcHardwareReset s).icc = s.icc := rfl
@[simp] theorem fdcHardwareReset_unseen (s : State) : (fdcHardwareReset s).unseen = s.unseen := rfl
@[simp] theorem fdcHardwareReset_platform (s : State) : (fdcHardwareReset s).platform = s.platform := rfl
@[simp] theorem fdcHardwareReset_fresh (s : State) : (fdcHardwareReset s).fresh = s.fresh := rfl
@[simp] theorem fdcHardwareReset_flagged (s : State) : (fdcHardwareReset s).flagged = s.flagged := rfl
@[simp] theorem fdcHardwareReset_input (s : State) : (fdcHardwareReset s).input = s.input := rfl

/-! ### `readDumpreg` -/

@[simp] theorem readDumpreg_packages (s : State) : (readDumpreg s).packages = s.packages := rfl
@[simp] theorem readDumpreg_icc (s : State) : (readDumpreg s).icc = s.icc := rfl
@[simp] theorem readDumpreg_unseen (s : State) : (readDumpreg s).unseen = s.unseen := rfl
@[simp] theorem readDumpreg_platform (s : State) : (readDumpreg s).platform = s.platform := rfl
@[simp] theorem readDumpreg_flagged (s : State) : (readDumpreg s).flagged = s.flagged := rfl
@[simp] theorem readDumpreg_input (s : State) : (readDumpreg s).input = s.input := rfl

/-! ### `otherCommandByte` -/

@[simp] theorem otherCommandByte_packages (s : State) : (otherCommandByte s).packages = s.packages := rfl
@[simp] theorem otherCommandByte_icc (s : State) : (otherCommandByte s).icc = s.icc := rfl
@[simp] theorem otherCommandByte_unseen (s : State) : (otherCommandByte s).unseen = s.unseen := rfl
@[simp] theorem otherCommandByte_platform (s : State) : (otherCommandByte s).platform = s.platform := rfl
@[simp] theorem otherCommandByte_flagged (s : State) : (otherCommandByte s).flagged = s.flagged := rfl
@[simp] theorem otherCommandByte_input (s : State) : (otherCommandByte s).input = s.input := rfl
@[simp] theorem otherCommandByte_fresh (s : State) : (otherCommandByte s).fresh = s.fresh + 1 := rfl
@[simp] theorem otherCommandByte_pr (s : State) : (otherCommandByte s).fdc.pr = s.fdc.pr := rfl

theorem otherCommandByte_phase (s : State) : (otherCommandByte s).fdc.phase ≠ .parameter := by
  simp only [otherCommandByte]; split <;> simp

/-! ### Packages after an update -/

theorem modifyPackage_get (s : State) (p q : Nat) (f : Package → Package) :
    (modifyPackage s p f).packages[q]? = if p = q then (s.packages[q]?).map f else s.packages[q]? := by
  simp only [modifyPackage, List.getElem?_modify]
  split <;> cases s.packages[q]? <;> rfl

@[simp] theorem modifyPackage_get_same (s : State) (p : Nat) (f : Package → Package) :
    (modifyPackage s p f).packages[p]? = (s.packages[p]?).map f := by rw [modifyPackage_get, if_pos rfl]

theorem modifyPackage_get_other {s : State} {p q : Nat} {f : Package → Package} (h : p ≠ q) :
    (modifyPackage s p f).packages[q]? = s.packages[q]? := by rw [modifyPackage_get, if_neg h]

@[simp] theorem modifyPackage_length (s : State) (p : Nat) (f : Package → Package) :
    (modifyPackage s p f).packages.length = s.packages.length := by simp [modifyPackage]

@[simp] theorem sendMessage_queue (s : State) (m : Message) : (sendMessage s m).icc.queue = s.icc.queue ++ [m] := rfl
@[simp] theorem sendMessage_carried (s : State) (m : Message) : (sendMessage s m).icc.carried = s.icc.carried := rfl

end Sys2Proof.Machine
end

