-- ==== Sys2Proof/Laws/Ops.lean ====
section
/-!
SUPPORT. What each operation on a local unit can do: the fields it leaves alone, and one lemma that says the rest.
-/

set_option Elab.async false

namespace Sys2Proof.Machine

/-! ### Outcomes -/

@[simp] theorem andThen_next (s : State) (f : State → Res) : andThen (.next s) f = f s := rfl
@[simp] theorem andThen_fault (e : Fault) (f : State → Res) : andThen (.fault e) f = .fault e := rfl
@[simp] theorem andThen_refused (e : Refusal) (f : State → Res) : andThen (.refused e) f = .refused e := rfl

/-- A sequence gives a next state only through a next state of its first part. -/
theorem andThen_eq_next {r : Res} {f : State → Res} {t : State} (h : andThen r f = .next t) :
    ∃ s, r = .next s ∧ f s = .next t := by
  cases r with
  | next s => exact ⟨s, rfl, h⟩
  | fault e => cases h
  | refused e => cases h

theorem withPackage_eq_next {s t : State} {p : Nat} {f : Package → Res} (h : withPackage s p f = .next t) :
    ∃ k, s.packages[p]? = some k ∧ f k = .next t := by
  unfold withPackage at h
  split at h
  · exact ⟨_, ‹_›, h⟩
  · cases h

theorem withPackage_of {s : State} {p : Nat} {k : Package} (f : Package → Res) (h : s.packages[p]? = some k) :
    withPackage s p f = f k := by simp [withPackage, h]

theorem functional_eq_next {s t : State} {p : Nat} {f : Package → Res} (h : functional s p f = .next t) :
    ∃ k, s.packages[p]? = some k ∧ k.needsReset = false ∧ f k = .next t := by
  obtain ⟨k, hk, h⟩ := withPackage_eq_next h
  split at h
  · cases h
  · rename_i hn
    exact ⟨k, hk, Bool.eq_false_iff.mpr hn, h⟩

theorem functional_of {s : State} {p : Nat} {k : Package} (f : Package → Res) (h : s.packages[p]? = some k)
    (hr : k.needsReset = false) : functional s p f = f k := by simp [functional, withPackage, h, hr]

/-- R368(b): a functional step on a package that must be reset is refused. -/
theorem functional_refused {s : State} {p : Nat} {k : Package} (f : Package → Res) (h : s.packages[p]? = some k)
    (hr : k.needsReset = true) : functional s p f = .refused .needsHardwareReset := by simp [functional, withPackage, h, hr]

theorem withProcessor_eq_next {s t : State} {p : Nat} {f : Package → Res} (h : withProcessor s p f = .next t) :
    ∃ k, s.packages[p]? = some k ∧ k.hasCpu = true ∧ f k = .next t := by
  obtain ⟨k, hk, h⟩ := withPackage_eq_next h
  split at h
  · exact ⟨k, hk, ‹_›, h⟩
  · cases h

theorem withProcessor_of {s : State} {p : Nat} {k : Package} (f : Package → Res) (h : s.packages[p]? = some k)
    (hc : k.hasCpu = true) : withProcessor s p f = f k := by simp [withProcessor, withPackage_of _ h, hc]

/-! ### Packages put back -/

theorem modifyPackage_of {s : State} {p : Nat} {k : Package} (h : s.packages[p]? = some k) (f : Package → Package) :
    modifyPackage s p f = s.putPackage p (f k) := by
  simp only [modifyPackage, State.putPackage]
  congr 1
  apply List.ext_getElem?
  intro i
  rw [List.getElem?_modify, List.getElem?_set]
  by_cases hi : p = i
  · subst hi
    have hl : p < s.packages.length := by
      rw [List.getElem?_eq_some_iff] at h
      exact h.1
    rw [if_pos rfl, if_pos hl, h]
    simp
  · simp [hi]

theorem putPackage_get {s : State} {p : Nat} {k : Package} (h : s.packages[p]? = some k) (k' : Package) (q : Nat) :
    (s.putPackage p k').packages[q]? = if p = q then some k' else s.packages[q]? := by
  have hl : p < s.packages.length := by
    rw [List.getElem?_eq_some_iff] at h
    exact h.1
  simp only [State.putPackage, List.getElem?_set, hl, if_true]

theorem putPackage_get_same {s : State} {p : Nat} {k : Package} (h : s.packages[p]? = some k) (k' : Package) :
    (s.putPackage p k').packages[p]? = some k' := by rw [putPackage_get h, if_pos rfl]

theorem putPackage_put (s : State) (p : Nat) (k k' : Package) : (s.putPackage p k).putPackage p k' = s.putPackage p k' := by
  simp [State.putPackage]

theorem putPackage_self {s : State} {p : Nat} {k : Package} (h : s.packages[p]? = some k) : s.putPackage p k = s := by
  obtain ⟨hl, hk⟩ := List.getElem?_eq_some_iff.mp h
  simp only [State.putPackage, ← hk, List.set_getElem_self]

/-- Two changes of one package are one. -/
theorem modifyPackage_modify (s : State) (p : Nat) (f g : Package → Package) :
    modifyPackage (modifyPackage s p f) p g = modifyPackage s p (g ∘ f) := by
  simp only [modifyPackage, List.modify_modify_eq]

/-- A register access of a processor that can reach registers. -/
theorem registerAccess_of {s : State} {p : Nat} {k : Package} {l : Location} (h : ReachesPage s p k l) (sel : BitVec 6)
    (a : Access) (rd : State → Res) (wr : Word → State → Res) :
    registerAccess p l sel a rd wr s =
      match a with
      | .read => andThen (drainAll p s) rd
      | .write v posted => postOrWrite p l sel v posted wr s := by
  have hc : ¬(l.space = .memory ∧ k.cpu.pageUncached = false) := fun x => by simpa [h.uncached x.1] using x.2
  simp only [registerAccess, busGate, withProcessor_of _ h.present h.wired, h.running, if_neg hc]
  cases a <;> rfl

theorem drainAll_empty {s : State} {p : Nat} {k : Package} (h : s.packages[p]? = some k) (he : k.cpu.wbuf = []) :
    drainAll p s = .next s := by simp [drainAll, withPackage_of _ h, he, drainList]

/-- A read of an own register, nothing being buffered. -/
theorem localAccess_read {s : State} {p : Nat} {k : Package} (h : BusReady s p k) (he : k.cpu.wbuf = []) (sel : BitVec 6)
    (rd : LocalUnit → Option Word) (wr : Nat → Word → State → Res) :
    localAccess p sel .read rd wr s = .next (returnRead s p (rd k.lu)) := by
  simp [localAccess, registerAccess_of h.toReachesPage, drainAll_empty h.present he, readLocal, functional_of _ h.present h.usable]

/-- A write, not posted, of an own register, nothing being buffered. -/
theorem localAccess_write {s : State} {p : Nat} {k : Package} (h : ReachesPage s p k s.platform.lu) (he : k.cpu.wbuf = []) (sel : BitVec 6)
    (v : Word) (rd : LocalUnit → Option Word) (wr : Nat → Word → State → Res) :
    localAccess p sel (.write v false) rd wr s = wr p v s := by
  simp [localAccess, registerAccess_of h, postOrWrite, withPackage_of _ h.present, drainAll_empty h.present he]

theorem returnData_of {s : State} {p : Nat} {k : Package} (h : s.packages[p]? = some k) (w : Word) :
    returnData s p w = s.received p k w := by
  simp [returnData, modifyCpu, modifyPackage_of h, State.received]

theorem localStore_of {s : State} {p : Nat} {k : Package} (h : BusReady s p k) (f : LocalUnit → LocalUnit) :
    localStore p s f = .next (s.putLocal p k (f k.lu)) := by
  simp [localStore, functional_of _ h.present h.usable, h.released, modifyLocal, modifyPackage_of h.present,
    State.putLocal]

/-! ### A byte at the FIFO, the IDs on the bus -/

/-- All that a byte at the FIFO can do (R281): it is the first of the perpendicular mode command, its second, or of another
command, and it never stops. -/
theorem fifoWrite_cases (b : Byte) (s : State) :
    (s.fdc.phase = .command ∧ b = perpendicularCode ∧
      fifoWrite b s = .next { s with fdc := { s.fdc with phase := .parameter } }) ∨
    (s.fdc.phase = .parameter ∧
      fifoWrite b s = .next { s with fdc := { s.fdc with pr := perpendicular b s.fdc.pr, phase := .command } }) ∨
    ((s.fdc.phase = .command ∧ b ≠ perpendicularCode ∨ s.fdc.phase = .other) ∧
      fifoWrite b s = .next (otherCommandByte s)) := by
  unfold fifoWrite
  cases hp : s.fdc.phase with
  | command => by_cases hb : b = perpendicularCode <;> simp [hb]
  | parameter => simp
  | other => simp

/-- Which IDs a package brings to the bus beside the sender's (R370). -/
theorem mem_busIds {src : Source} {l : List Source} {q : Nat} {k : Package} {x : Byte} :
    x ∈ busIds src l q k ↔
      (((k.hasCpu = true ∧ k.resetPin = false ∧ enabled k.lu = true) ∨ .local q ∈ l) ∧ src ≠ .local q ∧
        x = unitIdOf k.lu.id) ∨
      (((∃ e ∈ k.iou.rt.toList, maskedOf (lowWord e) = false) ∨ ∃ y ∈ l, fromIo q y = true) ∧ fromIo q src = false ∧
        x = unitIdOf k.iou.id) := by
  simp only [busIds, List.mem_append]
  generalize k.iou.rt.toList = r
  refine or_congr ?_ ?_ <;> split <;> rename_i h <;> simp_all <;> tauto

/-! ### `dispense` -/

/-- Everything R146 can do to a unit. -/
theorem dispense_cases (u : LocalUnit) :
    (enabled u = false ∧ dispense u = { u with pint := .z }) ∨
    (enabled u = true ∧ u.commit ≠ .none ∧ dispense u = u) ∨
    (enabled u = true ∧ u.commit = .none ∧ dispensable u ≠ none ∧
      dispense u = { u with commit := .internal, extInta := false, pint := .high }) ∨
    (enabled u = true ∧ u.commit = .none ∧ dispensable u = none ∧ u.extIntPending = true ∧
      dispense u = { u with commit := .external, extInta := true, pint := .high }) ∨
    (enabled u = true ∧ u.commit = .none ∧ dispensable u = none ∧ u.extIntPending = false ∧
      dispense u = { u with pint := .low }) := by
  unfold dispense
  cases he : enabled u
  · left; simp
  · right
    cases hc : u.commit
    · right
      cases hd : dispensable u
      · right
        cases hx : u.extIntPending <;> simp
      · left; simp
    · left; simp
    · left; simp

@[simp] theorem dispense_id (u : LocalUnit) : (dispense u).id = u.id := by
  rcases dispense_cases u with ⟨_, h⟩ | ⟨_, _, h⟩ | ⟨_, _, _, h⟩ | ⟨_, _, _, _, h⟩ | ⟨_, _, _, _, h⟩ <;> rw [h]

@[simp] theorem dispense_tpr (u : LocalUnit) : (dispense u).tpr = u.tpr := by
  rcases dispense_cases u with ⟨_, h⟩ | ⟨_, _, h⟩ | ⟨_, _, _, h⟩ | ⟨_, _, _, _, h⟩ | ⟨_, _, _, _, h⟩ <;> rw [h]

@[simp] theorem dispense_remote (u : LocalUnit) : (dispense u).remote = u.remote := by
  rcases dispense_cases u with ⟨_, h⟩ | ⟨_, _, h⟩ | ⟨_, _, _, h⟩ | ⟨_, _, _, _, h⟩ | ⟨_, _, _, _, h⟩ <;> rw [h]

@[simp] theorem dispense_ldr (u : LocalUnit) : (dispense u).ldr = u.ldr := by
  rcases dispense_cases u with ⟨_, h⟩ | ⟨_, _, h⟩ | ⟨_, _, _, h⟩ | ⟨_, _, _, _, h⟩ | ⟨_, _, _, _, h⟩ <;> rw [h]

@[simp] theorem dispense_dfr (u : LocalUnit) : (dispense u).dfr = u.dfr := by
  rcases dispense_cases u with ⟨_, h⟩ | ⟨_, _, h⟩ | ⟨_, _, _, h⟩ | ⟨_, _, _, _, h⟩ | ⟨_, _, _, _, h⟩ <;> rw [h]

@[simp] theorem dispense_svr (u : LocalUnit) : (dispense u).svr = u.svr := by
  rcases dispense_cases u with ⟨_, h⟩ | ⟨_, _, h⟩ | ⟨_, _, _, h⟩ | ⟨_, _, _, _, h⟩ | ⟨_, _, _, _, h⟩ <;> rw [h]

@[simp] theorem dispense_isr (u : LocalUnit) : (dispense u).isr = u.isr := by
  rcases dispense_cases u with ⟨_, h⟩ | ⟨_, _, h⟩ | ⟨_, _, _, h⟩ | ⟨_, _, _, _, h⟩ | ⟨_, _, _, _, h⟩ <;> rw [h]

@[simp] theorem dispense_tmr (u : LocalUnit) : (dispense u).tmr = u.tmr := by
  rcases dispense_cases u with ⟨_, h⟩ | ⟨_, _, h⟩ | ⟨_, _, _, h⟩ | ⟨_, _, _, _, h⟩ | ⟨_, _, _, _, h⟩ <;> rw [h]

@[simp] theorem dispense_irr (u : LocalUnit) : (dispense u).irr = u.irr := by
  rcases dispense_cases u with ⟨_, h⟩ | ⟨_, _, h⟩ | ⟨_, _, _, h⟩ | ⟨_, _, _, _, h⟩ | ⟨_, _, _, _, h⟩ <;> rw [h]

@[simp] theorem dispense_icrLow (u : LocalUnit) : (dispense u).icrLow = u.icrLow := by
  rcases dispense_cases u with ⟨_, h⟩ | ⟨_, _, h⟩ | ⟨_, _, _, h⟩ | ⟨_, _, _, _, h⟩ | ⟨_, _, _, _, h⟩ <;> rw [h]

@[simp] theorem dispense_icrHigh (u : LocalUnit) : (dispense u).icrHigh = u.icrHigh := by
  rcases dispense_cases u with ⟨_, h⟩ | ⟨_, _, h⟩ | ⟨_, _, _, h⟩ | ⟨_, _, _, _, h⟩ | ⟨_, _, _, _, h⟩ <;> rw [h]

@[simp] theorem dispense_lvtTimer (u : LocalUnit) : (dispense u).lvtTimer = u.lvtTimer := by
  rcases dispense_cases u with ⟨_, h⟩ | ⟨_, _, h⟩ | ⟨_, _, _, h⟩ | ⟨_, _, _, _, h⟩ | ⟨_, _, _, _, h⟩ <;> rw [h]

@[simp] theorem dispense_lvtLint0 (u : LocalUnit) : (dispense u).lvtLint0 = u.lvtLint0 := by
  rcases dispense_cases u with ⟨_, h⟩ | ⟨_, _, h⟩ | ⟨_, _, _, h⟩ | ⟨_, _, _, _, h⟩ | ⟨_, _, _, _, h⟩ <;> rw [h]

@[simp] theorem dispense_lvtLint1 (u : LocalUnit) : (dispense u).lvtLint1 = u.lvtLint1 := by
  rcases dispense_cases u with ⟨_, h⟩ | ⟨_, _, h⟩ | ⟨_, _, _, h⟩ | ⟨_, _, _, _, h⟩ | ⟨_, _, _, _, h⟩ <;> rw [h]

@[simp] theorem dispense_timerInit (u : LocalUnit) : (dispense u).timerInit = u.timerInit := by
  rcases dispense_cases u with ⟨_, h⟩ | ⟨_, _, h⟩ | ⟨_, _, _, h⟩ | ⟨_, _, _, _, h⟩ | ⟨_, _, _, _, h⟩ <;> rw [h]

@[simp] theorem dispense_timerCur (u : LocalUnit) : (dispense u).timerCur = u.timerCur := by
  rcases dispense_cases u with ⟨_, h⟩ | ⟨_, _, h⟩ | ⟨_, _, _, h⟩ | ⟨_, _, _, _, h⟩ | ⟨_, _, _, _, h⟩ <;> rw [h]

@[simp] theorem dispense_timerDiv (u : LocalUnit) : (dispense u).timerDiv = u.timerDiv := by
  rcases dispense_cases u with ⟨_, h⟩ | ⟨_, _, h⟩ | ⟨_, _, _, h⟩ | ⟨_, _, _, _, h⟩ | ⟨_, _, _, _, h⟩ <;> rw [h]

@[simp] theorem dispense_arbId (u : LocalUnit) : (dispense u).arbId = u.arbId := by
  rcases dispense_cases u with ⟨_, h⟩ | ⟨_, _, h⟩ | ⟨_, _, _, h⟩ | ⟨_, _, _, _, h⟩ | ⟨_, _, _, _, h⟩ <;> rw [h]

@[simp] theorem dispense_extIntPending (u : LocalUnit) : (dispense u).extIntPending = u.extIntPending := by
  rcases dispense_cases u with ⟨_, h⟩ | ⟨_, _, h⟩ | ⟨_, _, _, h⟩ | ⟨_, _, _, _, h⟩ | ⟨_, _, _, _, h⟩ <;> rw [h]

@[simp] theorem dispense_pnmi (u : LocalUnit) : (dispense u).pnmi = u.pnmi := by
  rcases dispense_cases u with ⟨_, h⟩ | ⟨_, _, h⟩ | ⟨_, _, _, h⟩ | ⟨_, _, _, _, h⟩ | ⟨_, _, _, _, h⟩ <;> rw [h]

@[simp] theorem dispense_prst (u : LocalUnit) : (dispense u).prst = u.prst := by
  rcases dispense_cases u with ⟨_, h⟩ | ⟨_, _, h⟩ | ⟨_, _, _, h⟩ | ⟨_, _, _, _, h⟩ | ⟨_, _, _, _, h⟩ <;> rw [h]

@[simp] theorem dispense_irrFrozen (u : LocalUnit) : (dispense u).irrFrozen = u.irrFrozen := by
  rcases dispense_cases u with ⟨_, h⟩ | ⟨_, _, h⟩ | ⟨_, _, _, h⟩ | ⟨_, _, _, _, h⟩ | ⟨_, _, _, _, h⟩ <;> rw [h]

@[simp] theorem dispense_intaVector (u : LocalUnit) : (dispense u).intaVector = u.intaVector := by
  rcases dispense_cases u with ⟨_, h⟩ | ⟨_, _, h⟩ | ⟨_, _, _, h⟩ | ⟨_, _, _, _, h⟩ | ⟨_, _, _, _, h⟩ <;> rw [h]

@[simp] theorem dispense_intaGenuine (u : LocalUnit) : (dispense u).intaGenuine = u.intaGenuine := by
  rcases dispense_cases u with ⟨_, h⟩ | ⟨_, _, h⟩ | ⟨_, _, _, h⟩ | ⟨_, _, _, _, h⟩ | ⟨_, _, _, _, h⟩ <;> rw [h]

@[simp] theorem dispense_intaPhase (u : LocalUnit) : (dispense u).intaPhase = u.intaPhase := by
  rcases dispense_cases u with ⟨_, h⟩ | ⟨_, _, h⟩ | ⟨_, _, _, h⟩ | ⟨_, _, _, _, h⟩ | ⟨_, _, _, _, h⟩ <;> rw [h]

@[simp] theorem dispense_lint0 (u : LocalUnit) : (dispense u).lint0 = u.lint0 := by
  rcases dispense_cases u with ⟨_, h⟩ | ⟨_, _, h⟩ | ⟨_, _, _, h⟩ | ⟨_, _, _, _, h⟩ | ⟨_, _, _, _, h⟩ <;> rw [h]

@[simp] theorem dispense_lint1 (u : LocalUnit) : (dispense u).lint1 = u.lint1 := by
  rcases dispense_cases u with ⟨_, h⟩ | ⟨_, _, h⟩ | ⟨_, _, _, h⟩ | ⟨_, _, _, _, h⟩ | ⟨_, _, _, _, h⟩ <;> rw [h]

@[simp] theorem dispense_nmiOut (u : LocalUnit) : (dispense u).nmiOut = u.nmiOut := by
  rcases dispense_cases u with ⟨_, h⟩ | ⟨_, _, h⟩ | ⟨_, _, _, h⟩ | ⟨_, _, _, _, h⟩ | ⟨_, _, _, _, h⟩ <;> rw [h]

@[simp] theorem dispense_resetOut (u : LocalUnit) : (dispense u).resetOut = u.resetOut := by
  rcases dispense_cases u with ⟨_, h⟩ | ⟨_, _, h⟩ | ⟨_, _, _, h⟩ | ⟨_, _, _, _, h⟩ | ⟨_, _, _, _, h⟩ <;> rw [h]

@[simp] theorem dispense_enabled (u : LocalUnit) : enabled (dispense u) = enabled u := by simp [enabled]


/-! ### `acceptFixed` -/

@[simp] theorem acceptFixed_id (v : Byte) (t : TriggerMode) (l : Bool) (u : LocalUnit) : (acceptFixed v t l u).id = u.id := by
  unfold acceptFixed; split <;> [rfl; (cases t <;> cases l <;> simp)]

@[simp] theorem acceptFixed_tpr (v : Byte) (t : TriggerMode) (l : Bool) (u : LocalUnit) : (acceptFixed v t l u).tpr = u.tpr := by
  unfold acceptFixed; split <;> [rfl; (cases t <;> cases l <;> simp)]

@[simp] theorem acceptFixed_remote (v : Byte) (t : TriggerMode) (l : Bool) (u : LocalUnit) : (acceptFixed v t l u).remote = u.remote := by
  unfold acceptFixed; split <;> [rfl; (cases t <;> cases l <;> simp)]

@[simp] theorem acceptFixed_ldr (v : Byte) (t : TriggerMode) (l : Bool) (u : LocalUnit) : (acceptFixed v t l u).ldr = u.ldr := by
  unfold acceptFixed; split <;> [rfl; (cases t <;> cases l <;> simp)]

@[simp] theorem acceptFixed_dfr (v : Byte) (t : TriggerMode) (l : Bool) (u : LocalUnit) : (acceptFixed v t l u).dfr = u.dfr := by
  unfold acceptFixed; split <;> [rfl; (cases t <;> cases l <;> simp)]

@[simp] theorem acceptFixed_svr (v : Byte) (t : TriggerMode) (l : Bool) (u : LocalUnit) : (acceptFixed v t l u).svr = u.svr := by
  unfold acceptFixed; split <;> [rfl; (cases t <;> cases l <;> simp)]

@[simp] theorem acceptFixed_isr (v : Byte) (t : TriggerMode) (l : Bool) (u : LocalUnit) : (acceptFixed v t l u).isr = u.isr := by
  unfold acceptFixed; split <;> [rfl; (cases t <;> cases l <;> simp)]

@[simp] theorem acceptFixed_icrLow (v : Byte) (t : TriggerMode) (l : Bool) (u : LocalUnit) : (acceptFixed v t l u).icrLow = u.icrLow := by
  unfold acceptFixed; split <;> [rfl; (cases t <;> cases l <;> simp)]

@[simp] theorem acceptFixed_icrHigh (v : Byte) (t : TriggerMode) (l : Bool) (u : LocalUnit) : (acceptFixed v t l u).icrHigh = u.icrHigh := by
  unfold acceptFixed; split <;> [rfl; (cases t <;> cases l <;> simp)]

@[simp] theorem acceptFixed_lvtTimer (v : Byte) (t : TriggerMode) (l : Bool) (u : LocalUnit) : (acceptFixed v t l u).lvtTimer = u.lvtTimer := by
  unfold acceptFixed; split <;> [rfl; (cases t <;> cases l <;> simp)]

@[simp] theorem acceptFixed_lvtLint0 (v : Byte) (t : TriggerMode) (l : Bool) (u : LocalUnit) : (acceptFixed v t l u).lvtLint0 = u.lvtLint0 := by
  unfold acceptFixed; split <;> [rfl; (cases t <;> cases l <;> simp)]

@[simp] theorem acceptFixed_lvtLint1 (v : Byte) (t : TriggerMode) (l : Bool) (u : LocalUnit) : (acceptFixed v t l u).lvtLint1 = u.lvtLint1 := by
  unfold acceptFixed; split <;> [rfl; (cases t <;> cases l <;> simp)]

@[simp] theorem acceptFixed_timerInit (v : Byte) (t : TriggerMode) (l : Bool) (u : LocalUnit) : (acceptFixed v t l u).timerInit = u.timerInit := by
  unfold acceptFixed; split <;> [rfl; (cases t <;> cases l <;> simp)]

@[simp] theorem acceptFixed_timerCur (v : Byte) (t : TriggerMode) (l : Bool) (u : LocalUnit) : (acceptFixed v t l u).timerCur = u.timerCur := by
  unfold acceptFixed; split <;> [rfl; (cases t <;> cases l <;> simp)]

@[simp] theorem acceptFixed_timerDiv (v : Byte) (t : TriggerMode) (l : Bool) (u : LocalUnit) : (acceptFixed v t l u).timerDiv = u.timerDiv := by
  unfold acceptFixed; split <;> [rfl; (cases t <;> cases l <;> simp)]

@[simp] theorem acceptFixed_arbId (v : Byte) (t : TriggerMode) (l : Bool) (u : LocalUnit) : (acceptFixed v t l u).arbId = u.arbId := by
  unfold acceptFixed; split <;> [rfl; (cases t <;> cases l <;> simp)]

@[simp] theorem acceptFixed_extIntPending (v : Byte) (t : TriggerMode) (l : Bool) (u : LocalUnit) : (acceptFixed v t l u).extIntPending = u.extIntPending := by
  unfold acceptFixed; split <;> [rfl; (cases t <;> cases l <;> simp)]

@[simp] theorem acceptFixed_pnmi (v : Byte) (t : TriggerMode) (l : Bool) (u : LocalUnit) : (acceptFixed v t l u).pnmi = u.pnmi := by
  unfold acceptFixed; split <;> [rfl; (cases t <;> cases l <;> simp)]

@[simp] theorem acceptFixed_prst (v : Byte) (t : TriggerMode) (l : Bool) (u : LocalUnit) : (acceptFixed v t l u).prst = u.prst := by
  unfold acceptFixed; split <;> [rfl; (cases t <;> cases l <;> simp)]

@[simp] theorem acceptFixed_irrFrozen (v : Byte) (t : TriggerMode) (l : Bool) (u : LocalUnit) : (acceptFixed v t l u).irrFrozen = u.irrFrozen := by
  unfold acceptFixed; split <;> [rfl; (cases t <;> cases l <;> simp)]

@[simp] theorem acceptFixed_intaVector (v : Byte) (t : TriggerMode) (l : Bool) (u : LocalUnit) : (acceptFixed v t l u).intaVector = u.intaVector := by
  unfold acceptFixed; split <;> [rfl; (cases t <;> cases l <;> simp)]

@[simp] theorem acceptFixed_intaGenuine (v : Byte) (t : TriggerMode) (l : Bool) (u : LocalUnit) : (acceptFixed v t l u).intaGenuine = u.intaGenuine := by
  unfold acceptFixed; split <;> [rfl; (cases t <;> cases l <;> simp)]

@[simp] theorem acceptFixed_intaPhase (v : Byte) (t : TriggerMode) (l : Bool) (u : LocalUnit) : (acceptFixed v t l u).intaPhase = u.intaPhase := by
  unfold acceptFixed; split <;> [rfl; (cases t <;> cases l <;> simp)]

@[simp] theorem acceptFixed_lint0 (v : Byte) (t : TriggerMode) (l : Bool) (u : LocalUnit) : (acceptFixed v t l u).lint0 = u.lint0 := by
  unfold acceptFixed; split <;> [rfl; (cases t <;> cases l <;> simp)]

@[simp] theorem acceptFixed_lint1 (v : Byte) (t : TriggerMode) (l : Bool) (u : LocalUnit) : (acceptFixed v t l u).lint1 = u.lint1 := by
  unfold acceptFixed; split <;> [rfl; (cases t <;> cases l <;> simp)]

@[simp] theorem acceptFixed_nmiOut (v : Byte) (t : TriggerMode) (l : Bool) (u : LocalUnit) : (acceptFixed v t l u).nmiOut = u.nmiOut := by
  unfold acceptFixed; split <;> [rfl; (cases t <;> cases l <;> simp)]

@[simp] theorem acceptFixed_resetOut (v : Byte) (t : TriggerMode) (l : Bool) (u : LocalUnit) : (acceptFixed v t l u).resetOut = u.resetOut := by
  unfold acceptFixed; split <;> [rfl; (cases t <;> cases l <;> simp)]

/-! ### `acceptExtInt` -/

@[simp] theorem acceptExtInt_id  (u : LocalUnit) : (acceptExtInt u).id = u.id := by
  simp [acceptExtInt]

@[simp] theorem acceptExtInt_tpr  (u : LocalUnit) : (acceptExtInt u).tpr = u.tpr := by
  simp [acceptExtInt]

@[simp] theorem acceptExtInt_remote  (u : LocalUnit) : (acceptExtInt u).remote = u.remote := by
  simp [acceptExtInt]

@[simp] theorem acceptExtInt_ldr  (u : LocalUnit) : (acceptExtInt u).ldr = u.ldr := by
  simp [acceptExtInt]

@[simp] theorem acceptExtInt_dfr  (u : LocalUnit) : (acceptExtInt u).dfr = u.dfr := by
  simp [acceptExtInt]

@[simp] theorem acceptExtInt_svr  (u : LocalUnit) : (acceptExtInt u).svr = u.svr := by
  simp [acceptExtInt]

@[simp] theorem acceptExtInt_isr  (u : LocalUnit) : (acceptExtInt u).isr = u.isr := by
  simp [acceptExtInt]

@[simp] theorem acceptExtInt_tmr  (u : LocalUnit) : (acceptExtInt u).tmr = u.tmr := by
  simp [acceptExtInt]

@[simp] theorem acceptExtInt_irr  (u : LocalUnit) : (acceptExtInt u).irr = u.irr := by
  simp [acceptExtInt]

@[simp] theorem acceptExtInt_icrLow  (u : LocalUnit) : (acceptExtInt u).icrLow = u.icrLow := by
  simp [acceptExtInt]

@[simp] theorem acceptExtInt_icrHigh  (u : LocalUnit) : (acceptExtInt u).icrHigh = u.icrHigh := by
  simp [acceptExtInt]

@[simp] theorem acceptExtInt_lvtTimer  (u : LocalUnit) : (acceptExtInt u).lvtTimer = u.lvtTimer := by
  simp [acceptExtInt]

@[simp] theorem acceptExtInt_lvtLint0  (u : LocalUnit) : (acceptExtInt u).lvtLint0 = u.lvtLint0 := by
  simp [acceptExtInt]

@[simp] theorem acceptExtInt_lvtLint1  (u : LocalUnit) : (acceptExtInt u).lvtLint1 = u.lvtLint1 := by
  simp [acceptExtInt]

@[simp] theorem acceptExtInt_timerInit  (u : LocalUnit) : (acceptExtInt u).timerInit = u.timerInit := by
  simp [acceptExtInt]

@[simp] theorem acceptExtInt_timerCur  (u : LocalUnit) : (acceptExtInt u).timerCur = u.timerCur := by
  simp [acceptExtInt]

@[simp] theorem acceptExtInt_timerDiv  (u : LocalUnit) : (acceptExtInt u).timerDiv = u.timerDiv := by
  simp [acceptExtInt]

@[simp] theorem acceptExtInt_arbId  (u : LocalUnit) : (acceptExtInt u).arbId = u.arbId := by
  simp [acceptExtInt]

@[simp] theorem acceptExtInt_pnmi  (u : LocalUnit) : (acceptExtInt u).pnmi = u.pnmi := by
  simp [acceptExtInt]

@[simp] theorem acceptExtInt_prst  (u : LocalUnit) : (acceptExtInt u).prst = u.prst := by
  simp [acceptExtInt]

@[simp] theorem acceptExtInt_irrFrozen  (u : LocalUnit) : (acceptExtInt u).irrFrozen = u.irrFrozen := by
  simp [acceptExtInt]

@[simp] theorem acceptExtInt_intaVector  (u : LocalUnit) : (acceptExtInt u).intaVector = u.intaVector := by
  simp [acceptExtInt]

@[simp] theorem acceptExtInt_intaGenuine  (u : LocalUnit) : (acceptExtInt u).intaGenuine = u.intaGenuine := by
  simp [acceptExtInt]

@[simp] theorem acceptExtInt_intaPhase  (u : LocalUnit) : (acceptExtInt u).intaPhase = u.intaPhase := by
  simp [acceptExtInt]

@[simp] theorem acceptExtInt_lint0  (u : LocalUnit) : (acceptExtInt u).lint0 = u.lint0 := by
  simp [acceptExtInt]

@[simp] theorem acceptExtInt_lint1  (u : LocalUnit) : (acceptExtInt u).lint1 = u.lint1 := by
  simp [acceptExtInt]

@[simp] theorem acceptExtInt_nmiOut  (u : LocalUnit) : (acceptExtInt u).nmiOut = u.nmiOut := by
  simp [acceptExtInt]

@[simp] theorem acceptExtInt_resetOut  (u : LocalUnit) : (acceptExtInt u).resetOut = u.resetOut := by
  simp [acceptExtInt]

/-! ### `acceptNmi` -/

@[simp] theorem acceptNmi_id (l : Bool) (u : LocalUnit) : (acceptNmi l u).id = u.id := by
  rfl

@[simp] theorem acceptNmi_tpr (l : Bool) (u : LocalUnit) : (acceptNmi l u).tpr = u.tpr := by
  rfl

@[simp] theorem acceptNmi_remote (l : Bool) (u : LocalUnit) : (acceptNmi l u).remote = u.remote := by
  rfl

@[simp] theorem acceptNmi_ldr (l : Bool) (u : LocalUnit) : (acceptNmi l u).ldr = u.ldr := by
  rfl

@[simp] theorem acceptNmi_dfr (l : Bool) (u : LocalUnit) : (acceptNmi l u).dfr = u.dfr := by
  rfl

@[simp] theorem acceptNmi_svr (l : Bool) (u : LocalUnit) : (acceptNmi l u).svr = u.svr := by
  rfl

@[simp] theorem acceptNmi_isr (l : Bool) (u : LocalUnit) : (acceptNmi l u).isr = u.isr := by
  rfl

@[simp] theorem acceptNmi_tmr (l : Bool) (u : LocalUnit) : (acceptNmi l u).tmr = u.tmr := by
  rfl

@[simp] theorem acceptNmi_irr (l : Bool) (u : LocalUnit) : (acceptNmi l u).irr = u.irr := by
  rfl

@[simp] theorem acceptNmi_icrLow (l : Bool) (u : LocalUnit) : (acceptNmi l u).icrLow = u.icrLow := by
  rfl

@[simp] theorem acceptNmi_icrHigh (l : Bool) (u : LocalUnit) : (acceptNmi l u).icrHigh = u.icrHigh := by
  rfl

@[simp] theorem acceptNmi_lvtTimer (l : Bool) (u : LocalUnit) : (acceptNmi l u).lvtTimer = u.lvtTimer := by
  rfl

@[simp] theorem acceptNmi_lvtLint0 (l : Bool) (u : LocalUnit) : (acceptNmi l u).lvtLint0 = u.lvtLint0 := by
  rfl

@[simp] theorem acceptNmi_lvtLint1 (l : Bool) (u : LocalUnit) : (acceptNmi l u).lvtLint1 = u.lvtLint1 := by
  rfl

@[simp] theorem acceptNmi_timerInit (l : Bool) (u : LocalUnit) : (acceptNmi l u).timerInit = u.timerInit := by
  rfl

@[simp] theorem acceptNmi_timerCur (l : Bool) (u : LocalUnit) : (acceptNmi l u).timerCur = u.timerCur := by
  rfl

@[simp] theorem acceptNmi_timerDiv (l : Bool) (u : LocalUnit) : (acceptNmi l u).timerDiv = u.timerDiv := by
  rfl

@[simp] theorem acceptNmi_arbId (l : Bool) (u : LocalUnit) : (acceptNmi l u).arbId = u.arbId := by
  rfl

@[simp] theorem acceptNmi_extIntPending (l : Bool) (u : LocalUnit) : (acceptNmi l u).extIntPending = u.extIntPending := by
  rfl

@[simp] theorem acceptNmi_commit (l : Bool) (u : LocalUnit) : (acceptNmi l u).commit = u.commit := by
  rfl

@[simp] theorem acceptNmi_pint (l : Bool) (u : LocalUnit) : (acceptNmi l u).pint = u.pint := by
  rfl

@[simp] theorem acceptNmi_prst (l : Bool) (u : LocalUnit) : (acceptNmi l u).prst = u.prst := by
  rfl

@[simp] theorem acceptNmi_extInta (l : Bool) (u : LocalUnit) : (acceptNmi l u).extInta = u.extInta := by
  rfl

@[simp] theorem acceptNmi_irrFrozen (l : Bool) (u : LocalUnit) : (acceptNmi l u).irrFrozen = u.irrFrozen := by
  rfl

@[simp] theorem acceptNmi_intaVector (l : Bool) (u : LocalUnit) : (acceptNmi l u).intaVector = u.intaVector := by
  rfl

@[simp] theorem acceptNmi_intaGenuine (l : Bool) (u : LocalUnit) : (acceptNmi l u).intaGenuine = u.intaGenuine := by
  rfl

@[simp] theorem acceptNmi_intaPhase (l : Bool) (u : LocalUnit) : (acceptNmi l u).intaPhase = u.intaPhase := by
  rfl

@[simp] theorem acceptNmi_lint0 (l : Bool) (u : LocalUnit) : (acceptNmi l u).lint0 = u.lint0 := by
  rfl

@[simp] theorem acceptNmi_lint1 (l : Bool) (u : LocalUnit) : (acceptNmi l u).lint1 = u.lint1 := by
  rfl

@[simp] theorem acceptNmi_resetOut (l : Bool) (u : LocalUnit) : (acceptNmi l u).resetOut = u.resetOut := by
  rfl

/-! ### `acknowledgeFirst` -/

@[simp] theorem acknowledgeFirst_id  (u : LocalUnit) : (acknowledgeFirst u).id = u.id := by
  unfold acknowledgeFirst; split <;> [rfl; (split <;> rfl); rfl]

@[simp] theorem acknowledgeFirst_tpr  (u : LocalUnit) : (acknowledgeFirst u).tpr = u.tpr := by
  unfold acknowledgeFirst; split <;> [rfl; (split <;> rfl); rfl]

@[simp] theorem acknowledgeFirst_remote  (u : LocalUnit) : (acknowledgeFirst u).remote = u.remote := by
  unfold acknowledgeFirst; split <;> [rfl; (split <;> rfl); rfl]

@[simp] theorem acknowledgeFirst_ldr  (u : LocalUnit) : (acknowledgeFirst u).ldr = u.ldr := by
  unfold acknowledgeFirst; split <;> [rfl; (split <;> rfl); rfl]

@[simp] theorem acknowledgeFirst_dfr  (u : LocalUnit) : (acknowledgeFirst u).dfr = u.dfr := by
  unfold acknowledgeFirst; split <;> [rfl; (split <;> rfl); rfl]

@[simp] theorem acknowledgeFirst_svr  (u : LocalUnit) : (acknowledgeFirst u).svr = u.svr := by
  unfold acknowledgeFirst; split <;> [rfl; (split <;> rfl); rfl]

@[simp] theorem acknowledgeFirst_isr  (u : LocalUnit) : (acknowledgeFirst u).isr = u.isr := by
  unfold acknowledgeFirst; split <;> [rfl; (split <;> rfl); rfl]

@[simp] theorem acknowledgeFirst_tmr  (u : LocalUnit) : (acknowledgeFirst u).tmr = u.tmr := by
  unfold acknowledgeFirst; split <;> [rfl; (split <;> rfl); rfl]

@[simp] theorem acknowledgeFirst_irr  (u : LocalUnit) : (acknowledgeFirst u).irr = u.irr := by
  unfold acknowledgeFirst; split <;> [rfl; (split <;> rfl); rfl]

@[simp] theorem acknowledgeFirst_icrLow  (u : LocalUnit) : (acknowledgeFirst u).icrLow = u.icrLow := by
  unfold acknowledgeFirst; split <;> [rfl; (split <;> rfl); rfl]

@[simp] theorem acknowledgeFirst_icrHigh  (u : LocalUnit) : (acknowledgeFirst u).icrHigh = u.icrHigh := by
  unfold acknowledgeFirst; split <;> [rfl; (split <;> rfl); rfl]

@[simp] theorem acknowledgeFirst_lvtTimer  (u : LocalUnit) : (acknowledgeFirst u).lvtTimer = u.lvtTimer := by
  unfold acknowledgeFirst; split <;> [rfl; (split <;> rfl); rfl]

@[simp] theorem acknowledgeFirst_lvtLint0  (u : LocalUnit) : (acknowledgeFirst u).lvtLint0 = u.lvtLint0 := by
  unfold acknowledgeFirst; split <;> [rfl; (split <;> rfl); rfl]

@[simp] theorem acknowledgeFirst_lvtLint1  (u : LocalUnit) : (acknowledgeFirst u).lvtLint1 = u.lvtLint1 := by
  unfold acknowledgeFirst; split <;> [rfl; (split <;> rfl); rfl]

@[simp] theorem acknowledgeFirst_timerInit  (u : LocalUnit) : (acknowledgeFirst u).timerInit = u.timerInit := by
  unfold acknowledgeFirst; split <;> [rfl; (split <;> rfl); rfl]

@[simp] theorem acknowledgeFirst_timerCur  (u : LocalUnit) : (acknowledgeFirst u).timerCur = u.timerCur := by
  unfold acknowledgeFirst; split <;> [rfl; (split <;> rfl); rfl]

@[simp] theorem acknowledgeFirst_timerDiv  (u : LocalUnit) : (acknowledgeFirst u).timerDiv = u.timerDiv := by
  unfold acknowledgeFirst; split <;> [rfl; (split <;> rfl); rfl]

@[simp] theorem acknowledgeFirst_arbId  (u : LocalUnit) : (acknowledgeFirst u).arbId = u.arbId := by
  unfold acknowledgeFirst; split <;> [rfl; (split <;> rfl); rfl]

@[simp] theorem acknowledgeFirst_extIntPending  (u : LocalUnit) : (acknowledgeFirst u).extIntPending = u.extIntPending := by
  unfold acknowledgeFirst; split <;> [rfl; (split <;> rfl); rfl]

@[simp] theorem acknowledgeFirst_commit  (u : LocalUnit) : (acknowledgeFirst u).commit = u.commit := by
  unfold acknowledgeFirst; split <;> [rfl; (split <;> rfl); rfl]

@[simp] theorem acknowledgeFirst_pint  (u : LocalUnit) : (acknowledgeFirst u).pint = u.pint := by
  unfold acknowledgeFirst; split <;> [rfl; (split <;> rfl); rfl]

@[simp] theorem acknowledgeFirst_pnmi  (u : LocalUnit) : (acknowledgeFirst u).pnmi = u.pnmi := by
  unfold acknowledgeFirst; split <;> [rfl; (split <;> rfl); rfl]

@[simp] theorem acknowledgeFirst_prst  (u : LocalUnit) : (acknowledgeFirst u).prst = u.prst := by
  unfold acknowledgeFirst; split <;> [rfl; (split <;> rfl); rfl]

@[simp] theorem acknowledgeFirst_extInta  (u : LocalUnit) : (acknowledgeFirst u).extInta = u.extInta := by
  unfold acknowledgeFirst; split <;> [rfl; (split <;> rfl); rfl]

@[simp] theorem acknowledgeFirst_lint0  (u : LocalUnit) : (acknowledgeFirst u).lint0 = u.lint0 := by
  unfold acknowledgeFirst; split <;> [rfl; (split <;> rfl); rfl]

@[simp] theorem acknowledgeFirst_lint1  (u : LocalUnit) : (acknowledgeFirst u).lint1 = u.lint1 := by
  unfold acknowledgeFirst; split <;> [rfl; (split <;> rfl); rfl]

@[simp] theorem acknowledgeFirst_nmiOut  (u : LocalUnit) : (acknowledgeFirst u).nmiOut = u.nmiOut := by
  unfold acknowledgeFirst; split <;> [rfl; (split <;> rfl); rfl]

@[simp] theorem acknowledgeFirst_resetOut  (u : LocalUnit) : (acknowledgeFirst u).resetOut = u.resetOut := by
  unfold acknowledgeFirst; split <;> [rfl; (split <;> rfl); rfl]

/-! ### `endAcknowledge` -/

@[simp] theorem endAcknowledge_id  (u : LocalUnit) : (endAcknowledge u).id = u.id := by
  simp [endAcknowledge]

@[simp] theorem endAcknowledge_tpr  (u : LocalUnit) : (endAcknowledge u).tpr = u.tpr := by
  simp [endAcknowledge]

@[simp] theorem endAcknowledge_remote  (u : LocalUnit) : (endAcknowledge u).remote = u.remote := by
  simp [endAcknowledge]

@[simp] theorem endAcknowledge_ldr  (u : LocalUnit) : (endAcknowledge u).ldr = u.ldr := by
  simp [endAcknowledge]

@[simp] theorem endAcknowledge_dfr  (u : LocalUnit) : (endAcknowledge u).dfr = u.dfr := by
  simp [endAcknowledge]

@[simp] theorem endAcknowledge_svr  (u : LocalUnit) : (endAcknowledge u).svr = u.svr := by
  simp [endAcknowledge]

@[simp] theorem endAcknowledge_isr  (u : LocalUnit) : (endAcknowledge u).isr = u.isr := by
  simp [endAcknowledge]

@[simp] theorem endAcknowledge_tmr  (u : LocalUnit) : (endAcknowledge u).tmr = u.tmr := by
  simp [endAcknowledge]

@[simp] theorem endAcknowledge_irr  (u : LocalUnit) : (endAcknowledge u).irr = u.irr := by
  simp [endAcknowledge]

@[simp] theorem endAcknowledge_icrLow  (u : LocalUnit) : (endAcknowledge u).icrLow = u.icrLow := by
  simp [endAcknowledge]

@[simp] theorem endAcknowledge_icrHigh  (u : LocalUnit) : (endAcknowledge u).icrHigh = u.icrHigh := by
  simp [endAcknowledge]

@[simp] theorem endAcknowledge_lvtTimer  (u : LocalUnit) : (endAcknowledge u).lvtTimer = u.lvtTimer := by
  simp [endAcknowledge]

@[simp] theorem endAcknowledge_lvtLint0  (u : LocalUnit) : (endAcknowledge u).lvtLint0 = u.lvtLint0 := by
  simp [endAcknowledge]

@[simp] theorem endAcknowledge_lvtLint1  (u : LocalUnit) : (endAcknowledge u).lvtLint1 = u.lvtLint1 := by
  simp [endAcknowledge]

@[simp] theorem endAcknowledge_timerInit  (u : LocalUnit) : (endAcknowledge u).timerInit = u.timerInit := by
  simp [endAcknowledge]

@[simp] theorem endAcknowledge_timerCur  (u : LocalUnit) : (endAcknowledge u).timerCur = u.timerCur := by
  simp [endAcknowledge]

@[simp] theorem endAcknowledge_timerDiv  (u : LocalUnit) : (endAcknowledge u).timerDiv = u.timerDiv := by
  simp [endAcknowledge]

@[simp] theorem endAcknowledge_arbId  (u : LocalUnit) : (endAcknowledge u).arbId = u.arbId := by
  simp [endAcknowledge]

@[simp] theorem endAcknowledge_extIntPending  (u : LocalUnit) : (endAcknowledge u).extIntPending = u.extIntPending := by
  simp [endAcknowledge]

@[simp] theorem endAcknowledge_pnmi  (u : LocalUnit) : (endAcknowledge u).pnmi = u.pnmi := by
  simp [endAcknowledge]

@[simp] theorem endAcknowledge_prst  (u : LocalUnit) : (endAcknowledge u).prst = u.prst := by
  simp [endAcknowledge]

@[simp] theorem endAcknowledge_intaVector  (u : LocalUnit) : (endAcknowledge u).intaVector = u.intaVector := by
  simp [endAcknowledge]

@[simp] theorem endAcknowledge_intaGenuine  (u : LocalUnit) : (endAcknowledge u).intaGenuine = u.intaGenuine := by
  simp [endAcknowledge]

@[simp] theorem endAcknowledge_lint0  (u : LocalUnit) : (endAcknowledge u).lint0 = u.lint0 := by
  simp [endAcknowledge]

@[simp] theorem endAcknowledge_lint1  (u : LocalUnit) : (endAcknowledge u).lint1 = u.lint1 := by
  simp [endAcknowledge]

@[simp] theorem endAcknowledge_nmiOut  (u : LocalUnit) : (endAcknowledge u).nmiOut = u.nmiOut := by
  simp [endAcknowledge]

@[simp] theorem endAcknowledge_resetOut  (u : LocalUnit) : (endAcknowledge u).resetOut = u.resetOut := by
  simp [endAcknowledge]

/-! ### `acknowledgeSecond` -/

@[simp] theorem acknowledgeSecond_id  (u : LocalUnit) : (acknowledgeSecond u).id = u.id := by
  unfold acknowledgeSecond; split <;> [simp; (split <;> simp [serveVector])]

@[simp] theorem acknowledgeSecond_tpr  (u : LocalUnit) : (acknowledgeSecond u).tpr = u.tpr := by
  unfold acknowledgeSecond; split <;> [simp; (split <;> simp [serveVector])]

@[simp] theorem acknowledgeSecond_remote  (u : LocalUnit) : (acknowledgeSecond u).remote = u.remote := by
  unfold acknowledgeSecond; split <;> [simp; (split <;> simp [serveVector])]

@[simp] theorem acknowledgeSecond_ldr  (u : LocalUnit) : (acknowledgeSecond u).ldr = u.ldr := by
  unfold acknowledgeSecond; split <;> [simp; (split <;> simp [serveVector])]

@[simp] theorem acknowledgeSecond_dfr  (u : LocalUnit) : (acknowledgeSecond u).dfr = u.dfr := by
  unfold acknowledgeSecond; split <;> [simp; (split <;> simp [serveVector])]

@[simp] theorem acknowledgeSecond_svr  (u : LocalUnit) : (acknowledgeSecond u).svr = u.svr := by
  unfold acknowledgeSecond; split <;> [simp; (split <;> simp [serveVector])]

@[simp] theorem acknowledgeSecond_tmr  (u : LocalUnit) : (acknowledgeSecond u).tmr = u.tmr := by
  unfold acknowledgeSecond; split <;> [simp; (split <;> simp [serveVector])]

@[simp] theorem acknowledgeSecond_icrLow  (u : LocalUnit) : (acknowledgeSecond u).icrLow = u.icrLow := by
  unfold acknowledgeSecond; split <;> [simp; (split <;> simp [serveVector])]

@[simp] theorem acknowledgeSecond_icrHigh  (u : LocalUnit) : (acknowledgeSecond u).icrHigh = u.icrHigh := by
  unfold acknowledgeSecond; split <;> [simp; (split <;> simp [serveVector])]

@[simp] theorem acknowledgeSecond_lvtTimer  (u : LocalUnit) : (acknowledgeSecond u).lvtTimer = u.lvtTimer := by
  unfold acknowledgeSecond; split <;> [simp; (split <;> simp [serveVector])]

@[simp] theorem acknowledgeSecond_lvtLint0  (u : LocalUnit) : (acknowledgeSecond u).lvtLint0 = u.lvtLint0 := by
  unfold acknowledgeSecond; split <;> [simp; (split <;> simp [serveVector])]

@[simp] theorem acknowledgeSecond_lvtLint1  (u : LocalUnit) : (acknowledgeSecond u).lvtLint1 = u.lvtLint1 := by
  unfold acknowledgeSecond; split <;> [simp; (split <;> simp [serveVector])]

@[simp] theorem acknowledgeSecond_timerInit  (u : LocalUnit) : (acknowledgeSecond u).timerInit = u.timerInit := by
  unfold acknowledgeSecond; split <;> [simp; (split <;> simp [serveVector])]

@[simp] theorem acknowledgeSecond_timerCur  (u : LocalUnit) : (acknowledgeSecond u).timerCur = u.timerCur := by
  unfold acknowledgeSecond; split <;> [simp; (split <;> simp [serveVector])]

@[simp] theorem acknowledgeSecond_timerDiv  (u : LocalUnit) : (acknowledgeSecond u).timerDiv = u.timerDiv := by
  unfold acknowledgeSecond; split <;> [simp; (split <;> simp [serveVector])]

@[simp] theorem acknowledgeSecond_arbId  (u : LocalUnit) : (acknowledgeSecond u).arbId = u.arbId := by
  unfold acknowledgeSecond; split <;> [simp; (split <;> simp [serveVector])]

@[simp] theorem acknowledgeSecond_pnmi  (u : LocalUnit) : (acknowledgeSecond u).pnmi = u.pnmi := by
  unfold acknowledgeSecond; split <;> [simp; (split <;> simp [serveVector])]

@[simp] theorem acknowledgeSecond_prst  (u : LocalUnit) : (acknowledgeSecond u).prst = u.prst := by
  unfold acknowledgeSecond; split <;> [simp; (split <;> simp [serveVector])]

@[simp] theorem acknowledgeSecond_intaVector  (u : LocalUnit) : (acknowledgeSecond u).intaVector = u.intaVector := by
  unfold acknowledgeSecond; split <;> [simp; (split <;> simp [serveVector])]

@[simp] theorem acknowledgeSecond_intaGenuine  (u : LocalUnit) : (acknowledgeSecond u).intaGenuine = u.intaGenuine := by
  unfold acknowledgeSecond; split <;> [simp; (split <;> simp [serveVector])]

@[simp] theorem acknowledgeSecond_lint0  (u : LocalUnit) : (acknowledgeSecond u).lint0 = u.lint0 := by
  unfold acknowledgeSecond; split <;> [simp; (split <;> simp [serveVector])]

@[simp] theorem acknowledgeSecond_lint1  (u : LocalUnit) : (acknowledgeSecond u).lint1 = u.lint1 := by
  unfold acknowledgeSecond; split <;> [simp; (split <;> simp [serveVector])]

@[simp] theorem acknowledgeSecond_nmiOut  (u : LocalUnit) : (acknowledgeSecond u).nmiOut = u.nmiOut := by
  unfold acknowledgeSecond; split <;> [simp; (split <;> simp [serveVector])]

@[simp] theorem acknowledgeSecond_resetOut  (u : LocalUnit) : (acknowledgeSecond u).resetOut = u.resetOut := by
  unfold acknowledgeSecond; split <;> [simp; (split <;> simp [serveVector])]

/-! ### `endOfInterrupt` -/

@[simp] theorem endOfInterrupt_id  (u : LocalUnit) : (endOfInterrupt u).id = u.id := by
  unfold endOfInterrupt; split <;> simp

@[simp] theorem endOfInterrupt_tpr  (u : LocalUnit) : (endOfInterrupt u).tpr = u.tpr := by
  unfold endOfInterrupt; split <;> simp

@[simp] theorem endOfInterrupt_remote  (u : LocalUnit) : (endOfInterrupt u).remote = u.remote := by
  unfold endOfInterrupt; split <;> simp

@[simp] theorem endOfInterrupt_ldr  (u : LocalUnit) : (endOfInterrupt u).ldr = u.ldr := by
  unfold endOfInterrupt; split <;> simp

@[simp] theorem endOfInterrupt_dfr  (u : LocalUnit) : (endOfInterrupt u).dfr = u.dfr := by
  unfold endOfInterrupt; split <;> simp

@[simp] theorem endOfInterrupt_svr  (u : LocalUnit) : (endOfInterrupt u).svr = u.svr := by
  unfold endOfInterrupt; split <;> simp

@[simp] theorem endOfInterrupt_tmr  (u : LocalUnit) : (endOfInterrupt u).tmr = u.tmr := by
  unfold endOfInterrupt; split <;> simp

@[simp] theorem endOfInterrupt_irr  (u : LocalUnit) : (endOfInterrupt u).irr = u.irr := by
  unfold endOfInterrupt; split <;> simp

@[simp] theorem endOfInterrupt_icrLow  (u : LocalUnit) : (endOfInterrupt u).icrLow = u.icrLow := by
  unfold endOfInterrupt; split <;> simp

@[simp] theorem endOfInterrupt_icrHigh  (u : LocalUnit) : (endOfInterrupt u).icrHigh = u.icrHigh := by
  unfold endOfInterrupt; split <;> simp

@[simp] theorem endOfInterrupt_lvtTimer  (u : LocalUnit) : (endOfInterrupt u).lvtTimer = u.lvtTimer := by
  unfold endOfInterrupt; split <;> simp

@[simp] theorem endOfInterrupt_lvtLint0  (u : LocalUnit) : (endOfInterrupt u).lvtLint0 = u.lvtLint0 := by
  unfold endOfInterrupt; split <;> simp

@[simp] theorem endOfInterrupt_lvtLint1  (u : LocalUnit) : (endOfInterrupt u).lvtLint1 = u.lvtLint1 := by
  unfold endOfInterrupt; split <;> simp

@[simp] theorem endOfInterrupt_timerInit  (u : LocalUnit) : (endOfInterrupt u).timerInit = u.timerInit := by
  unfold endOfInterrupt; split <;> simp

@[simp] theorem endOfInterrupt_timerCur  (u : LocalUnit) : (endOfInterrupt u).timerCur = u.timerCur := by
  unfold endOfInterrupt; split <;> simp

@[simp] theorem endOfInterrupt_timerDiv  (u : LocalUnit) : (endOfInterrupt u).timerDiv = u.timerDiv := by
  unfold endOfInterrupt; split <;> simp

@[simp] theorem endOfInterrupt_arbId  (u : LocalUnit) : (endOfInterrupt u).arbId = u.arbId := by
  unfold endOfInterrupt; split <;> simp

@[simp] theorem endOfInterrupt_extIntPending  (u : LocalUnit) : (endOfInterrupt u).extIntPending = u.extIntPending := by
  unfold endOfInterrupt; split <;> simp

@[simp] theorem endOfInterrupt_pnmi  (u : LocalUnit) : (endOfInterrupt u).pnmi = u.pnmi := by
  unfold endOfInterrupt; split <;> simp

@[simp] theorem endOfInterrupt_prst  (u : LocalUnit) : (endOfInterrupt u).prst = u.prst := by
  unfold endOfInterrupt; split <;> simp

@[simp] theorem endOfInterrupt_irrFrozen  (u : LocalUnit) : (endOfInterrupt u).irrFrozen = u.irrFrozen := by
  unfold endOfInterrupt; split <;> simp

@[simp] theorem endOfInterrupt_intaVector  (u : LocalUnit) : (endOfInterrupt u).intaVector = u.intaVector := by
  unfold endOfInterrupt; split <;> simp

@[simp] theorem endOfInterrupt_intaGenuine  (u : LocalUnit) : (endOfInterrupt u).intaGenuine = u.intaGenuine := by
  unfold endOfInterrupt; split <;> simp

@[simp] theorem endOfInterrupt_intaPhase  (u : LocalUnit) : (endOfInterrupt u).intaPhase = u.intaPhase := by
  unfold endOfInterrupt; split <;> simp

@[simp] theorem endOfInterrupt_lint0  (u : LocalUnit) : (endOfInterrupt u).lint0 = u.lint0 := by
  unfold endOfInterrupt; split <;> simp

@[simp] theorem endOfInterrupt_lint1  (u : LocalUnit) : (endOfInterrupt u).lint1 = u.lint1 := by
  unfold endOfInterrupt; split <;> simp

@[simp] theorem endOfInterrupt_nmiOut  (u : LocalUnit) : (endOfInterrupt u).nmiOut = u.nmiOut := by
  unfold endOfInterrupt; split <;> simp

@[simp] theorem endOfInterrupt_resetOut  (u : LocalUnit) : (endOfInterrupt u).resetOut = u.resetOut := by
  unfold endOfInterrupt; split <;> simp

end Sys2Proof.Machine
end

