-- ==== Sys2Proof/Laws/PerInstr.lean ====
section
/-!
SUPPORT. A family of statements about every operation as syntax: its cycle is presented at the port of its row's format, and
its word agrees with its row of spec/opcode_table.json in every bit the row fixes. (A direct register of I/O unit `n` is at
the unit's own page, so bits 20 to 12 of its address are an operand.)
-/

set_option Elab.async false

namespace Sys2Proof.Laws.EncodesItsRow

/-- A row: its port, the bits it fixes and their values. -/
structure Row where
  port  : Port
  mask  : Word
  value : Word
  deriving DecidableEq, Repr

/-- The row of an operation. -/
def row : Instr → Row
  | .luId _ _ => ⟨.bus, 0xFFFFFFFF#32, 0xFEE00020#32⟩
  | .luVersion _ _ => ⟨.bus, 0xFFFFFFFF#32, 0xFEE00030#32⟩
  | .luTpr _ _ => ⟨.bus, 0xFFFFFFFF#32, 0xFEE00080#32⟩
  | .luEoi _ _ => ⟨.bus, 0xFFFFFFFF#32, 0xFEE000B0#32⟩
  | .luRemote _ _ => ⟨.bus, 0xFFFFFFFF#32, 0xFEE000C0#32⟩
  | .luLdr _ _ => ⟨.bus, 0xFFFFFFFF#32, 0xFEE000D0#32⟩
  | .luDfr _ _ => ⟨.bus, 0xFFFFFFFF#32, 0xFEE000E0#32⟩
  | .luSvr _ _ => ⟨.bus, 0xFFFFFFFF#32, 0xFEE000F0#32⟩
  | .luIsr _ _ _ => ⟨.bus, 0xFFFFFF8F#32, 0xFEE00100#32⟩
  | .luTmr _ _ _ => ⟨.bus, 0xFFFFFF8F#32, 0xFEE00180#32⟩
  | .luIrr _ _ _ => ⟨.bus, 0xFFFFFF8F#32, 0xFEE00200#32⟩
  | .luIcrLow _ _ => ⟨.bus, 0xFFFFFFFF#32, 0xFEE00300#32⟩
  | .luIcrHigh _ _ => ⟨.bus, 0xFFFFFFFF#32, 0xFEE00310#32⟩
  | .luLvtTimer _ _ => ⟨.bus, 0xFFFFFFFF#32, 0xFEE00320#32⟩
  | .luLvtLint0 _ _ => ⟨.bus, 0xFFFFFFFF#32, 0xFEE00350#32⟩
  | .luLvtLint1 _ _ => ⟨.bus, 0xFFFFFFFF#32, 0xFEE00360#32⟩
  | .luTimerInit _ _ => ⟨.bus, 0xFFFFFFFF#32, 0xFEE00380#32⟩
  | .luTimerCur _ _ => ⟨.bus, 0xFFFFFFFF#32, 0xFEE00390#32⟩
  | .luTimerDiv _ _ => ⟨.bus, 0xFFFFFFFF#32, 0xFEE003E0#32⟩
  | .luReserved000000 _ _ => ⟨.bus, 0xFFFFFFFF#32, 0xFEE00000#32⟩
  | .luReserved000001 _ _ => ⟨.bus, 0xFFFFFFFF#32, 0xFEE00010#32⟩
  | .luReserved000100 _ _ => ⟨.bus, 0xFFFFFFFF#32, 0xFEE00040#32⟩
  | .luReserved000101 _ _ => ⟨.bus, 0xFFFFFFFF#32, 0xFEE00050#32⟩
  | .luReserved000110 _ _ => ⟨.bus, 0xFFFFFFFF#32, 0xFEE00060#32⟩
  | .luReserved000111 _ _ => ⟨.bus, 0xFFFFFFFF#32, 0xFEE00070#32⟩
  | .luReserved001001 _ _ => ⟨.bus, 0xFFFFFFFF#32, 0xFEE00090#32⟩
  | .luReserved001010 _ _ => ⟨.bus, 0xFFFFFFFF#32, 0xFEE000A0#32⟩
  | .luReserved101000 _ _ => ⟨.bus, 0xFFFFFFFF#32, 0xFEE00280#32⟩
  | .luReserved101001 _ _ => ⟨.bus, 0xFFFFFFFF#32, 0xFEE00290#32⟩
  | .luReserved101010 _ _ => ⟨.bus, 0xFFFFFFFF#32, 0xFEE002A0#32⟩
  | .luReserved101011 _ _ => ⟨.bus, 0xFFFFFFFF#32, 0xFEE002B0#32⟩
  | .luReserved101100 _ _ => ⟨.bus, 0xFFFFFFFF#32, 0xFEE002C0#32⟩
  | .luReserved101101 _ _ => ⟨.bus, 0xFFFFFFFF#32, 0xFEE002D0#32⟩
  | .luReserved101110 _ _ => ⟨.bus, 0xFFFFFFFF#32, 0xFEE002E0#32⟩
  | .luReserved101111 _ _ => ⟨.bus, 0xFFFFFFFF#32, 0xFEE002F0#32⟩
  | .luReserved110011 _ _ => ⟨.bus, 0xFFFFFFFF#32, 0xFEE00330#32⟩
  | .luReserved110100 _ _ => ⟨.bus, 0xFFFFFFFF#32, 0xFEE00340#32⟩
  | .luReserved110111 _ _ => ⟨.bus, 0xFFFFFFFF#32, 0xFEE00370#32⟩
  | .luReserved111010 _ _ => ⟨.bus, 0xFFFFFFFF#32, 0xFEE003A0#32⟩
  | .luReserved111011 _ _ => ⟨.bus, 0xFFFFFFFF#32, 0xFEE003B0#32⟩
  | .luReserved111100 _ _ => ⟨.bus, 0xFFFFFFFF#32, 0xFEE003C0#32⟩
  | .luReserved111101 _ _ => ⟨.bus, 0xFFFFFFFF#32, 0xFEE003D0#32⟩
  | .luReserved111111 _ _ => ⟨.bus, 0xFFFFFFFF#32, 0xFEE003F0#32⟩
  | .ioSelect _ _ _ => ⟨.bus, 0xFFE00FFF#32, 0xFEC00000#32⟩
  | .ioWindow _ _ _ => ⟨.bus, 0xFFE00FFF#32, 0xFEC00010#32⟩
  | .ioReservedDirect _ _ _ _ => ⟨.bus, 0xFFE00C0F#32, 0xFEC00000#32⟩
  | .ioIdxId _ _ _ => ⟨.window, 0xFFFFFFFF#32, 0x00000000#32⟩
  | .ioIdxVersion _ _ _ => ⟨.window, 0xFFFFFFFF#32, 0x00000001#32⟩
  | .ioIdxRtLow0To7 _ _ _ _ => ⟨.window, 0xFFFFFFF1#32, 0x00000010#32⟩
  | .ioIdxRtHigh0To7 _ _ _ _ => ⟨.window, 0xFFFFFFF1#32, 0x00000011#32⟩
  | .ioIdxRtLow8To15 _ _ _ _ => ⟨.window, 0xFFFFFFF1#32, 0x00000020#32⟩
  | .ioIdxRtHigh8To15 _ _ _ _ => ⟨.window, 0xFFFFFFF1#32, 0x00000021#32⟩
  | .ioIdxReserved _ _ _ _ => ⟨.window, 0xFFFFFF00#32, 0x00000000#32⟩
  | .msgFixed _ _ => ⟨.command, 0xFFF02700#32, 0x00000000#32⟩
  | .msgLowestPriority _ _ => ⟨.command, 0xFFF02700#32, 0x00000100#32⟩
  | .msgReserved010 _ _ => ⟨.command, 0xFFF02700#32, 0x00000200#32⟩
  | .msgRemoteRead _ _ => ⟨.command, 0xFFF02700#32, 0x00000300#32⟩
  | .msgNmi _ _ => ⟨.command, 0xFFF02700#32, 0x00000400#32⟩
  | .msgReset _ _ => ⟨.command, 0xFFF02700#32, 0x00000500#32⟩
  | .msgReserved110 _ _ => ⟨.command, 0xFFF02700#32, 0x00000600#32⟩
  | .msgExtint _ _ => ⟨.command, 0xFFF02700#32, 0x00000700#32⟩
  | .jtagExtest _ _ => ⟨.tap, 0xFFFFFFFF#32, 0x00000000#32⟩
  | .jtagSamplePreload _ _ => ⟨.tap, 0xFFFFFFFF#32, 0x00000001#32⟩
  | .jtagIdcode _ _ => ⟨.tap, 0xFFFFFFFF#32, 0x00000002#32⟩
  | .jtagReserved1001 _ _ => ⟨.tap, 0xFFFFFFFF#32, 0x00000009#32⟩
  | .jtagBypass _ _ => ⟨.tap, 0xFFFFFFFF#32, 0x0000000F#32⟩
  | .jtagUnlisted0011 _ _ => ⟨.tap, 0xFFFFFFFF#32, 0x00000003#32⟩
  | .jtagUnlisted0100 _ _ => ⟨.tap, 0xFFFFFFFF#32, 0x00000004#32⟩
  | .jtagUnlisted0101 _ _ => ⟨.tap, 0xFFFFFFFF#32, 0x00000005#32⟩
  | .jtagUnlisted0110 _ _ => ⟨.tap, 0xFFFFFFFF#32, 0x00000006#32⟩
  | .jtagUnlisted0111 _ _ => ⟨.tap, 0xFFFFFFFF#32, 0x00000007#32⟩
  | .jtagUnlisted1000 _ _ => ⟨.tap, 0xFFFFFFFF#32, 0x00000008#32⟩
  | .jtagUnlisted1010 _ _ => ⟨.tap, 0xFFFFFFFF#32, 0x0000000A#32⟩
  | .jtagUnlisted1011 _ _ => ⟨.tap, 0xFFFFFFFF#32, 0x0000000B#32⟩
  | .jtagUnlisted1100 _ _ => ⟨.tap, 0xFFFFFFFF#32, 0x0000000C#32⟩
  | .jtagUnlisted1101 _ _ => ⟨.tap, 0xFFFFFFFF#32, 0x0000000D#32⟩
  | .jtagUnlisted1110 _ _ => ⟨.tap, 0xFFFFFFFF#32, 0x0000000E#32⟩
  | .fdcPerpendicularMode _ => ⟨.fifo, 0xFFFFFF00#32, 0x00001200#32⟩
  | .fdcDumpregResult8 => ⟨.result, 0x00000000#32, 0x00000000#32⟩

/-- On the recommended platform, whose addresses the table's rows have, the operation is presented at its row's port, and its
word agrees with the row. -/
def Statement (i : Instr) : Prop :=
  WellFormed .recommended i →
    (encode .recommended i).port = (row i).port ∧ (encode .recommended i).word &&& (row i).mask = (row i).value

/-- The recommended address of a register of a local unit. -/
abbrev luAddress (sel : BitVec 6) : Word := registerAddress Platform.recommended.lu sel

theorem io_port (n : Nat) : spacePort (ioLocation .recommended n).space = .bus := by
  match n with
  | 0 | 1 | 2 | 3 => rfl
  | n + 4 => rfl

theorem ioAddress_fixed {n : Nat} (h : n < 4) (sel : BitVec 6) :
    registerAddress (ioLocation .recommended n) sel &&& 0xFFE00C0F#32 = 0xFEC00000#32 :=
  (by decide +kernel : ∀ m < 4, ∀ x : BitVec 6,
    registerAddress (ioLocation .recommended m) x &&& 0xFFE00C0F#32 = 0xFEC00000#32) n h sel

theorem ioAddress_selector {n : Nat} (h : n < 4) (sel : BitVec 6) :
    registerAddress (ioLocation .recommended n) sel &&& 0xFFE00FFF#32 = 0xFEC00000#32 ||| (sel ++ 0#4).setWidth 32 :=
  (by decide +kernel : ∀ m < 4, ∀ x : BitVec 6,
    registerAddress (ioLocation .recommended m) x &&& 0xFFE00FFF#32 = 0xFEC00000#32 ||| (x ++ 0#4).setWidth 32) n h sel

theorem commandWord_fixed (mode : BitVec 3) (f : CommandFields) :
    commandWord mode f &&& 0xFFF02700#32 = (mode ++ 0#8).setWidth 32 := by
  unfold commandWord
  apply BitVec.eq_of_getLsbD_eq
  intro i hi
  interval_cases i <;>
    simp only [BitVec.getLsbD_and, BitVec.getLsbD_setWidth, BitVec.getLsbD_append] <;> simp

theorem byte_fixed (b : Byte) : b.setWidth 32 &&& 0xFFFFFF00#32 = 0#32 := by
  apply BitVec.eq_of_getLsbD_eq
  intro i hi
  interval_cases i <;> simp

theorem floppy_fixed (pr : Byte) : (0x12#8 ++ pr).setWidth 32 &&& 0xFFFFFF00#32 = 0x00001200#32 := by
  apply BitVec.eq_of_getLsbD_eq
  intro i hi
  interval_cases i <;>
    simp only [BitVec.getLsbD_and, BitVec.getLsbD_setWidth, BitVec.getLsbD_append] <;> simp

theorem luId (p : Nat) (a : Access) : Statement (.luId p a) := fun _ =>
  ⟨rfl, (by decide : luAddress 0b000010#6 &&& 0xFFFFFFFF#32 = 0xFEE00020#32)⟩

theorem luVersion (p : Nat) (a : Access) : Statement (.luVersion p a) := fun _ =>
  ⟨rfl, (by decide : luAddress 0b000011#6 &&& 0xFFFFFFFF#32 = 0xFEE00030#32)⟩

theorem luTpr (p : Nat) (a : Access) : Statement (.luTpr p a) := fun _ =>
  ⟨rfl, (by decide : luAddress 0b001000#6 &&& 0xFFFFFFFF#32 = 0xFEE00080#32)⟩

theorem luEoi (p : Nat) (a : Access) : Statement (.luEoi p a) := fun _ =>
  ⟨rfl, (by decide : luAddress 0b001011#6 &&& 0xFFFFFFFF#32 = 0xFEE000B0#32)⟩

theorem luRemote (p : Nat) (a : Access) : Statement (.luRemote p a) := fun _ =>
  ⟨rfl, (by decide : luAddress 0b001100#6 &&& 0xFFFFFFFF#32 = 0xFEE000C0#32)⟩

theorem luLdr (p : Nat) (a : Access) : Statement (.luLdr p a) := fun _ =>
  ⟨rfl, (by decide : luAddress 0b001101#6 &&& 0xFFFFFFFF#32 = 0xFEE000D0#32)⟩

theorem luDfr (p : Nat) (a : Access) : Statement (.luDfr p a) := fun _ =>
  ⟨rfl, (by decide : luAddress 0b001110#6 &&& 0xFFFFFFFF#32 = 0xFEE000E0#32)⟩

theorem luSvr (p : Nat) (a : Access) : Statement (.luSvr p a) := fun _ =>
  ⟨rfl, (by decide : luAddress 0b001111#6 &&& 0xFFFFFFFF#32 = 0xFEE000F0#32)⟩

theorem luIsr_fixed : ∀ k : BitVec 3, luAddress (0b010#3 ++ k) &&& 0xFFFFFF8F#32 = 0xFEE00100#32 := by decide

theorem luIsr (p : Nat) (k : BitVec 3) (a : Access) : Statement (.luIsr p k a) := fun _ => ⟨rfl, luIsr_fixed k⟩

theorem luTmr_fixed : ∀ k : BitVec 3, luAddress (0b011#3 ++ k) &&& 0xFFFFFF8F#32 = 0xFEE00180#32 := by decide

theorem luTmr (p : Nat) (k : BitVec 3) (a : Access) : Statement (.luTmr p k a) := fun _ => ⟨rfl, luTmr_fixed k⟩

theorem luIrr_fixed : ∀ k : BitVec 3, luAddress (0b100#3 ++ k) &&& 0xFFFFFF8F#32 = 0xFEE00200#32 := by decide

theorem luIrr (p : Nat) (k : BitVec 3) (a : Access) : Statement (.luIrr p k a) := fun _ => ⟨rfl, luIrr_fixed k⟩

theorem luIcrLow (p : Nat) (a : Access) : Statement (.luIcrLow p a) := fun _ =>
  ⟨rfl, (by decide : luAddress 0b110000#6 &&& 0xFFFFFFFF#32 = 0xFEE00300#32)⟩

theorem luIcrHigh (p : Nat) (a : Access) : Statement (.luIcrHigh p a) := fun _ =>
  ⟨rfl, (by decide : luAddress 0b110001#6 &&& 0xFFFFFFFF#32 = 0xFEE00310#32)⟩

theorem luLvtTimer (p : Nat) (a : Access) : Statement (.luLvtTimer p a) := fun _ =>
  ⟨rfl, (by decide : luAddress 0b110010#6 &&& 0xFFFFFFFF#32 = 0xFEE00320#32)⟩

theorem luLvtLint0 (p : Nat) (a : Access) : Statement (.luLvtLint0 p a) := fun _ =>
  ⟨rfl, (by decide : luAddress 0b110101#6 &&& 0xFFFFFFFF#32 = 0xFEE00350#32)⟩

theorem luLvtLint1 (p : Nat) (a : Access) : Statement (.luLvtLint1 p a) := fun _ =>
  ⟨rfl, (by decide : luAddress 0b110110#6 &&& 0xFFFFFFFF#32 = 0xFEE00360#32)⟩

theorem luTimerInit (p : Nat) (a : Access) : Statement (.luTimerInit p a) := fun _ =>
  ⟨rfl, (by decide : luAddress 0b111000#6 &&& 0xFFFFFFFF#32 = 0xFEE00380#32)⟩

theorem luTimerCur (p : Nat) (a : Access) : Statement (.luTimerCur p a) := fun _ =>
  ⟨rfl, (by decide : luAddress 0b111001#6 &&& 0xFFFFFFFF#32 = 0xFEE00390#32)⟩

theorem luTimerDiv (p : Nat) (a : Access) : Statement (.luTimerDiv p a) := fun _ =>
  ⟨rfl, (by decide : luAddress 0b111110#6 &&& 0xFFFFFFFF#32 = 0xFEE003E0#32)⟩

theorem luReserved000000 (p : Nat) (a : Access) : Statement (.luReserved000000 p a) := fun _ =>
  ⟨rfl, (by decide : luAddress 0b000000#6 &&& 0xFFFFFFFF#32 = 0xFEE00000#32)⟩

theorem luReserved000001 (p : Nat) (a : Access) : Statement (.luReserved000001 p a) := fun _ =>
  ⟨rfl, (by decide : luAddress 0b000001#6 &&& 0xFFFFFFFF#32 = 0xFEE00010#32)⟩

theorem luReserved000100 (p : Nat) (a : Access) : Statement (.luReserved000100 p a) := fun _ =>
  ⟨rfl, (by decide : luAddress 0b000100#6 &&& 0xFFFFFFFF#32 = 0xFEE00040#32)⟩

theorem luReserved000101 (p : Nat) (a : Access) : Statement (.luReserved000101 p a) := fun _ =>
  ⟨rfl, (by decide : luAddress 0b000101#6 &&& 0xFFFFFFFF#32 = 0xFEE00050#32)⟩

theorem luReserved000110 (p : Nat) (a : Access) : Statement (.luReserved000110 p a) := fun _ =>
  ⟨rfl, (by decide : luAddress 0b000110#6 &&& 0xFFFFFFFF#32 = 0xFEE00060#32)⟩

theorem luReserved000111 (p : Nat) (a : Access) : Statement (.luReserved000111 p a) := fun _ =>
  ⟨rfl, (by decide : luAddress 0b000111#6 &&& 0xFFFFFFFF#32 = 0xFEE00070#32)⟩

theorem luReserved001001 (p : Nat) (a : Access) : Statement (.luReserved001001 p a) := fun _ =>
  ⟨rfl, (by decide : luAddress 0b001001#6 &&& 0xFFFFFFFF#32 = 0xFEE00090#32)⟩

theorem luReserved001010 (p : Nat) (a : Access) : Statement (.luReserved001010 p a) := fun _ =>
  ⟨rfl, (by decide : luAddress 0b001010#6 &&& 0xFFFFFFFF#32 = 0xFEE000A0#32)⟩

theorem luReserved101000 (p : Nat) (a : Access) : Statement (.luReserved101000 p a) := fun _ =>
  ⟨rfl, (by decide : luAddress 0b101000#6 &&& 0xFFFFFFFF#32 = 0xFEE00280#32)⟩

theorem luReserved101001 (p : Nat) (a : Access) : Statement (.luReserved101001 p a) := fun _ =>
  ⟨rfl, (by decide : luAddress 0b101001#6 &&& 0xFFFFFFFF#32 = 0xFEE00290#32)⟩

theorem luReserved101010 (p : Nat) (a : Access) : Statement (.luReserved101010 p a) := fun _ =>
  ⟨rfl, (by decide : luAddress 0b101010#6 &&& 0xFFFFFFFF#32 = 0xFEE002A0#32)⟩

theorem luReserved101011 (p : Nat) (a : Access) : Statement (.luReserved101011 p a) := fun _ =>
  ⟨rfl, (by decide : luAddress 0b101011#6 &&& 0xFFFFFFFF#32 = 0xFEE002B0#32)⟩

theorem luReserved101100 (p : Nat) (a : Access) : Statement (.luReserved101100 p a) := fun _ =>
  ⟨rfl, (by decide : luAddress 0b101100#6 &&& 0xFFFFFFFF#32 = 0xFEE002C0#32)⟩

theorem luReserved101101 (p : Nat) (a : Access) : Statement (.luReserved101101 p a) := fun _ =>
  ⟨rfl, (by decide : luAddress 0b101101#6 &&& 0xFFFFFFFF#32 = 0xFEE002D0#32)⟩

theorem luReserved101110 (p : Nat) (a : Access) : Statement (.luReserved101110 p a) := fun _ =>
  ⟨rfl, (by decide : luAddress 0b101110#6 &&& 0xFFFFFFFF#32 = 0xFEE002E0#32)⟩

theorem luReserved101111 (p : Nat) (a : Access) : Statement (.luReserved101111 p a) := fun _ =>
  ⟨rfl, (by decide : luAddress 0b101111#6 &&& 0xFFFFFFFF#32 = 0xFEE002F0#32)⟩

theorem luReserved110011 (p : Nat) (a : Access) : Statement (.luReserved110011 p a) := fun _ =>
  ⟨rfl, (by decide : luAddress 0b110011#6 &&& 0xFFFFFFFF#32 = 0xFEE00330#32)⟩

theorem luReserved110100 (p : Nat) (a : Access) : Statement (.luReserved110100 p a) := fun _ =>
  ⟨rfl, (by decide : luAddress 0b110100#6 &&& 0xFFFFFFFF#32 = 0xFEE00340#32)⟩

theorem luReserved110111 (p : Nat) (a : Access) : Statement (.luReserved110111 p a) := fun _ =>
  ⟨rfl, (by decide : luAddress 0b110111#6 &&& 0xFFFFFFFF#32 = 0xFEE00370#32)⟩

theorem luReserved111010 (p : Nat) (a : Access) : Statement (.luReserved111010 p a) := fun _ =>
  ⟨rfl, (by decide : luAddress 0b111010#6 &&& 0xFFFFFFFF#32 = 0xFEE003A0#32)⟩

theorem luReserved111011 (p : Nat) (a : Access) : Statement (.luReserved111011 p a) := fun _ =>
  ⟨rfl, (by decide : luAddress 0b111011#6 &&& 0xFFFFFFFF#32 = 0xFEE003B0#32)⟩

theorem luReserved111100 (p : Nat) (a : Access) : Statement (.luReserved111100 p a) := fun _ =>
  ⟨rfl, (by decide : luAddress 0b111100#6 &&& 0xFFFFFFFF#32 = 0xFEE003C0#32)⟩

theorem luReserved111101 (p : Nat) (a : Access) : Statement (.luReserved111101 p a) := fun _ =>
  ⟨rfl, (by decide : luAddress 0b111101#6 &&& 0xFFFFFFFF#32 = 0xFEE003D0#32)⟩

theorem luReserved111111 (p : Nat) (a : Access) : Statement (.luReserved111111 p a) := fun _ =>
  ⟨rfl, (by decide : luAddress 0b111111#6 &&& 0xFFFFFFFF#32 = 0xFEE003F0#32)⟩

theorem ioSelect (p : Nat) (n : Nat) (a : Access) : Statement (.ioSelect p n a) := fun h =>
  ⟨io_port n, (ioAddress_selector (of_decide_eq_true h) _).trans (by decide : 0xFEC00000#32 ||| (0b000000#6 ++ 0#4).setWidth 32 = 0xFEC00000#32)⟩

theorem ioWindow (p : Nat) (n : Nat) (a : Access) : Statement (.ioWindow p n a) := fun h =>
  ⟨io_port n, (ioAddress_selector (of_decide_eq_true h) _).trans (by decide : 0xFEC00000#32 ||| (0b000001#6 ++ 0#4).setWidth 32 = 0xFEC00010#32)⟩

theorem ioReservedDirect (p : Nat) (n : Nat) (sel : BitVec 6) (a : Access) : Statement (.ioReservedDirect p n sel a) := fun h =>
  ⟨io_port n, ioAddress_fixed (of_decide_eq_true (Bool.and_eq_true_iff.mp h).1) sel⟩

theorem ioIdxId (p : Nat) (n : Nat) (a : Access) : Statement (.ioIdxId p n a) := fun _ =>
  ⟨rfl, (by decide : (0x00#8).setWidth 32 &&& 0xFFFFFFFF#32 = 0x00000000#32)⟩

theorem ioIdxVersion (p : Nat) (n : Nat) (a : Access) : Statement (.ioIdxVersion p n a) := fun _ =>
  ⟨rfl, (by decide : (0x01#8).setWidth 32 &&& 0xFFFFFFFF#32 = 0x00000001#32)⟩

theorem ioIdxRtLow0To7_fixed : ∀ k : BitVec 3, (rtIndex 1 k 0).setWidth 32 &&& 0xFFFFFFF1#32 = 0x00000010#32 := by decide

theorem ioIdxRtLow0To7 (p : Nat) (n : Nat) (k : BitVec 3) (a : Access) : Statement (.ioIdxRtLow0To7 p n k a) := fun _ => ⟨rfl, ioIdxRtLow0To7_fixed k⟩

theorem ioIdxRtHigh0To7_fixed : ∀ k : BitVec 3, (rtIndex 1 k 1).setWidth 32 &&& 0xFFFFFFF1#32 = 0x00000011#32 := by decide

theorem ioIdxRtHigh0To7 (p : Nat) (n : Nat) (k : BitVec 3) (a : Access) : Statement (.ioIdxRtHigh0To7 p n k a) := fun _ => ⟨rfl, ioIdxRtHigh0To7_fixed k⟩

theorem ioIdxRtLow8To15_fixed : ∀ k : BitVec 3, (rtIndex 2 k 0).setWidth 32 &&& 0xFFFFFFF1#32 = 0x00000020#32 := by decide

theorem ioIdxRtLow8To15 (p : Nat) (n : Nat) (k : BitVec 3) (a : Access) : Statement (.ioIdxRtLow8To15 p n k a) := fun _ => ⟨rfl, ioIdxRtLow8To15_fixed k⟩

theorem ioIdxRtHigh8To15_fixed : ∀ k : BitVec 3, (rtIndex 2 k 1).setWidth 32 &&& 0xFFFFFFF1#32 = 0x00000021#32 := by decide

theorem ioIdxRtHigh8To15 (p : Nat) (n : Nat) (k : BitVec 3) (a : Access) : Statement (.ioIdxRtHigh8To15 p n k a) := fun _ => ⟨rfl, ioIdxRtHigh8To15_fixed k⟩

theorem ioIdxReserved (p : Nat) (n : Nat) (idx : Byte) (a : Access) : Statement (.ioIdxReserved p n idx a) := fun _ => ⟨rfl, byte_fixed idx⟩

theorem msgFixed (p : Nat) (f : CommandFields) : Statement (.msgFixed p f) := fun _ =>
  ⟨rfl, (commandWord_fixed _ f).trans (by decide : (0#3 ++ 0#8).setWidth 32 = 0x00000000#32)⟩

theorem msgLowestPriority (p : Nat) (f : CommandFields) : Statement (.msgLowestPriority p f) := fun _ =>
  ⟨rfl, (commandWord_fixed _ f).trans (by decide : (1#3 ++ 0#8).setWidth 32 = 0x00000100#32)⟩

theorem msgReserved010 (p : Nat) (f : CommandFields) : Statement (.msgReserved010 p f) := fun _ =>
  ⟨rfl, (commandWord_fixed _ f).trans (by decide : (2#3 ++ 0#8).setWidth 32 = 0x00000200#32)⟩

theorem msgRemoteRead (p : Nat) (f : CommandFields) : Statement (.msgRemoteRead p f) := fun _ =>
  ⟨rfl, (commandWord_fixed _ f).trans (by decide : (3#3 ++ 0#8).setWidth 32 = 0x00000300#32)⟩

theorem msgNmi (p : Nat) (f : CommandFields) : Statement (.msgNmi p f) := fun _ =>
  ⟨rfl, (commandWord_fixed _ f).trans (by decide : (4#3 ++ 0#8).setWidth 32 = 0x00000400#32)⟩

theorem msgReset (p : Nat) (f : CommandFields) : Statement (.msgReset p f) := fun _ =>
  ⟨rfl, (commandWord_fixed _ f).trans (by decide : (5#3 ++ 0#8).setWidth 32 = 0x00000500#32)⟩

theorem msgReserved110 (p : Nat) (f : CommandFields) : Statement (.msgReserved110 p f) := fun _ =>
  ⟨rfl, (commandWord_fixed _ f).trans (by decide : (6#3 ++ 0#8).setWidth 32 = 0x00000600#32)⟩

theorem msgExtint (p : Nat) (f : CommandFields) : Statement (.msgExtint p f) := fun _ =>
  ⟨rfl, (commandWord_fixed _ f).trans (by decide : (7#3 ++ 0#8).setWidth 32 = 0x00000700#32)⟩

theorem jtagExtest (k : Nat) (tdi : List Bool) : Statement (.jtagExtest k tdi) := fun _ =>
  ⟨rfl, (by decide : (0x0#4).setWidth 32 &&& 0xFFFFFFFF#32 = 0x00000000#32)⟩

theorem jtagSamplePreload (k : Nat) (tdi : List Bool) : Statement (.jtagSamplePreload k tdi) := fun _ =>
  ⟨rfl, (by decide : (0x1#4).setWidth 32 &&& 0xFFFFFFFF#32 = 0x00000001#32)⟩

theorem jtagIdcode (k : Nat) (tdi : List Bool) : Statement (.jtagIdcode k tdi) := fun _ =>
  ⟨rfl, (by decide : (0x2#4).setWidth 32 &&& 0xFFFFFFFF#32 = 0x00000002#32)⟩

theorem jtagReserved1001 (k : Nat) (tdi : List Bool) : Statement (.jtagReserved1001 k tdi) := fun _ =>
  ⟨rfl, (by decide : (0x9#4).setWidth 32 &&& 0xFFFFFFFF#32 = 0x00000009#32)⟩

theorem jtagBypass (k : Nat) (tdi : List Bool) : Statement (.jtagBypass k tdi) := fun _ =>
  ⟨rfl, (by decide : (0xF#4).setWidth 32 &&& 0xFFFFFFFF#32 = 0x0000000F#32)⟩

theorem jtagUnlisted0011 (k : Nat) (tdi : List Bool) : Statement (.jtagUnlisted0011 k tdi) := fun _ =>
  ⟨rfl, (by decide : (0x3#4).setWidth 32 &&& 0xFFFFFFFF#32 = 0x00000003#32)⟩

theorem jtagUnlisted0100 (k : Nat) (tdi : List Bool) : Statement (.jtagUnlisted0100 k tdi) := fun _ =>
  ⟨rfl, (by decide : (0x4#4).setWidth 32 &&& 0xFFFFFFFF#32 = 0x00000004#32)⟩

theorem jtagUnlisted0101 (k : Nat) (tdi : List Bool) : Statement (.jtagUnlisted0101 k tdi) := fun _ =>
  ⟨rfl, (by decide : (0x5#4).setWidth 32 &&& 0xFFFFFFFF#32 = 0x00000005#32)⟩

theorem jtagUnlisted0110 (k : Nat) (tdi : List Bool) : Statement (.jtagUnlisted0110 k tdi) := fun _ =>
  ⟨rfl, (by decide : (0x6#4).setWidth 32 &&& 0xFFFFFFFF#32 = 0x00000006#32)⟩

theorem jtagUnlisted0111 (k : Nat) (tdi : List Bool) : Statement (.jtagUnlisted0111 k tdi) := fun _ =>
  ⟨rfl, (by decide : (0x7#4).setWidth 32 &&& 0xFFFFFFFF#32 = 0x00000007#32)⟩

theorem jtagUnlisted1000 (k : Nat) (tdi : List Bool) : Statement (.jtagUnlisted1000 k tdi) := fun _ =>
  ⟨rfl, (by decide : (0x8#4).setWidth 32 &&& 0xFFFFFFFF#32 = 0x00000008#32)⟩

theorem jtagUnlisted1010 (k : Nat) (tdi : List Bool) : Statement (.jtagUnlisted1010 k tdi) := fun _ =>
  ⟨rfl, (by decide : (0xA#4).setWidth 32 &&& 0xFFFFFFFF#32 = 0x0000000A#32)⟩

theorem jtagUnlisted1011 (k : Nat) (tdi : List Bool) : Statement (.jtagUnlisted1011 k tdi) := fun _ =>
  ⟨rfl, (by decide : (0xB#4).setWidth 32 &&& 0xFFFFFFFF#32 = 0x0000000B#32)⟩

theorem jtagUnlisted1100 (k : Nat) (tdi : List Bool) : Statement (.jtagUnlisted1100 k tdi) := fun _ =>
  ⟨rfl, (by decide : (0xC#4).setWidth 32 &&& 0xFFFFFFFF#32 = 0x0000000C#32)⟩

theorem jtagUnlisted1101 (k : Nat) (tdi : List Bool) : Statement (.jtagUnlisted1101 k tdi) := fun _ =>
  ⟨rfl, (by decide : (0xD#4).setWidth 32 &&& 0xFFFFFFFF#32 = 0x0000000D#32)⟩

theorem jtagUnlisted1110 (k : Nat) (tdi : List Bool) : Statement (.jtagUnlisted1110 k tdi) := fun _ =>
  ⟨rfl, (by decide : (0xE#4).setWidth 32 &&& 0xFFFFFFFF#32 = 0x0000000E#32)⟩

theorem fdcPerpendicularMode (pr : Byte) : Statement (.fdcPerpendicularMode pr) := fun _ => ⟨rfl, floppy_fixed pr⟩

theorem fdcDumpregResult8  : Statement (.fdcDumpregResult8) := fun _ => ⟨rfl, rfl⟩

end Sys2Proof.Laws.EncodesItsRow
end

