-- ==== Sys2Proof/Laws/Platform.lean ====
section
/-!
SUPPORT. What the operations on a processor, on memory as the processors see it, and on the pins can do: one lemma each.
-/

set_option Elab.async false

namespace Sys2Proof.Machine

/-! ### A processor that starts (R24, R366) -/

/-- A change at the pins changes nothing more than the processor, and that only when its RESET input falls. -/
theorem startedOnFall_eq (old k : Package) :
    startedOnFall old k = { k with cpu := if cpuReset old && !cpuReset k then Cpu.started else k.cpu } := by
  unfold startedOnFall; split <;> rfl

/-- A change of the TAP changes the TAP, and starts the processor if its RESET input falls with it. -/
theorem modifyTap_of {s : State} {p : Nat} {k : Package} (h : s.packages[p]? = some k) (f : Package → Tap) :
    modifyTap s p f = s.putPackage p { k with tap := f k, cpu := cpuAfter k { k with tap := f k } } := by
  rw [modifyTap, modifyPackage_of h, startedOnFall_eq]; rfl

/-- A rising edge moves the TAP as R232 says, after what R237 to R241 do in the state it leaves. -/
theorem tapRise_of {s : State} {p : Nat} {k : Package} (h : s.packages[p]? = some k) (tms tdi : Option Bool) :
    tapRise p tms tdi s =
      .next (modifyTap { s with fresh := if drawsFree k.tap.state then s.fresh + 1 else s.fresh } p fun pk =>
        moveTo (tapNext pk.tap.state (pulledUp tms)) (actOnRise pk s.fresh (pulledUp tdi))) := by
  rw [tapRise, withPackage_of _ h]

/-! ### A step of a processor's own (R20) -/

/-- A step of `CpuCore` changes the schedule, the counter of free values and the processor's own state, or nothing. -/
theorem cpuStep_eq_next {s t : State} {p : Nat} (h : cpuStep p s = .next t) :
    ∃ k, s.packages[p]? = some k ∧ k.hasCpu = true ∧
      ((cpuHeld k = true ∧ t = s) ∨
        (cpuHeld k = false ∧
          t = issue p (Config.cpuIssues (cpuSample k s.fresh))
            { s.putPackage p { k with cpu := { k.cpu with core := Config.cpuNext (cpuSample k s.fresh) } } with
              fresh := s.fresh + 1 })) := by
  obtain ⟨k, hk, hc, h⟩ := withProcessor_eq_next h
  refine ⟨k, hk, hc, ?_⟩
  split at h
  · exact .inl ⟨‹_›, by simpa using h.symm⟩
  · refine .inr ⟨by simpa using ‹¬cpuHeld k = true›, ?_⟩
    cases h
    rw [modifyCpu, modifyPackage_of (s := { s with fresh := s.fresh + 1 }) (k := k) hk]
    rfl

@[simp] theorem issue_packages (p : Nat) (a : Option CpuAction) (s : State) : (issue p a s).packages = s.packages := by
  unfold issue; split <;> rfl
@[simp] theorem issue_icc (p : Nat) (a : Option CpuAction) (s : State) : (issue p a s).icc = s.icc := by
  unfold issue; split <;> rfl
@[simp] theorem issue_platform (p : Nat) (a : Option CpuAction) (s : State) : (issue p a s).platform = s.platform := by
  unfold issue; split <;> rfl

/-! ### Memory as the processors see it (R93) -/

/-- Every processor's view of memory is in its canonical form. -/
def ViewsWf (s : State) : Prop := ∀ (q : Nat) (k : Package), s.packages[q]? = some k → Memory.wf k.view = true

/-- A change of one view that keeps the canonical form keeps that of all. -/
theorem viewsWf_modify {s : State} (h : ViewsWf s) (p : Nat) (f : List Host.Cell → List Host.Cell)
    (hf : ∀ m, Memory.wf m = true → Memory.wf (f m) = true) :
    ViewsWf (modifyPackage s p fun k => { k with view := f k.view }) := by
  intro q k hk
  rw [modifyPackage_get] at hk
  split at hk
  · obtain ⟨k0, h0, rfl⟩ := Option.map_eq_some_iff.1 hk
    exact hf _ (h q k0 h0)
  · exact h q k hk

/-- A write of a processor keeps every view canonical. -/
theorem viewsWf_memoryStore {s : State} (h : ViewsWf s) (p v : Nat) (l : List Word) : ViewsWf (memoryStore p v l s) :=
  viewsWf_modify h p (fun m => writeBytes m v l) fun _ hm => wf_writeBytes hm v l

/-- A byte that comes into sight keeps every view canonical. -/
theorem viewsWf_storeSeen {s : State} (h : ViewsWf s) (i : Nat) : ViewsWf (storeSeen i s) := by
  unfold storeSeen
  split
  · rename_i x _
    exact viewsWf_modify h x.observer (fun m => memWrite m x.addr.toNat x.byte) fun _ hm =>
      wfFrom_memWrite hm (Nat.zero_le _) x.addr.isLt _
  · exact h

/-- A write of processor `p` changes its own view and leaves the bytes unseen by the others. -/
theorem memoryStore_of {s : State} {p : Nat} {k : Package} (h : s.packages[p]? = some k) (v : Nat) (l : List Word) :
    memoryStore p v l s = { s.putPackage p { k with view := writeBytes k.view v l } with
      unseen := s.unseen ++ (observers p s).flatMap fun q => pendingStores q v l } := by
  rw [memoryStore, modifyPackage_of h]

/-- The observers of a write of `p` are the other packages with a processor. -/
theorem mem_observers {s : State} {p q : Nat} :
    q ∈ observers p s ↔ q ≠ p ∧ ∃ k, s.packages[q]? = some k ∧ k.hasCpu = true := by
  simp only [observers, List.mem_filter, List.mem_range, Bool.and_eq_true, bne_iff_ne, ne_eq]
  constructor
  · rintro ⟨_, hne, ha⟩
    obtain ⟨k, hk, hc⟩ := Option.any_eq_true _ _ |>.1 ha
    exact ⟨hne, k, hk, hc⟩
  · rintro ⟨hne, k, hk, hc⟩
    exact ⟨(List.getElem?_eq_some_iff.1 hk).1, hne, by rw [hk]; exact hc⟩

/-- A byte that comes into sight changes its observer's view at its address, and no other view. -/
theorem storeSeen_of {s : State} {i : Nat} {x : Store} {k : Package} (h : s.unseen[i]? = some x)
    (hk : s.packages[x.observer]? = some k) :
    storeSeen i s = { s.putPackage x.observer { k with view := memWrite k.view x.addr.toNat x.byte } with
      unseen := s.unseen.eraseIdx i } := by
  simp only [storeSeen, h]
  rw [modifyPackage_of hk]

@[simp] theorem storeSeen_icc (i : Nat) (s : State) : (storeSeen i s).icc = s.icc := by unfold storeSeen; split <;> rfl
@[simp] theorem storeSeen_fdc (i : Nat) (s : State) : (storeSeen i s).fdc = s.fdc := by unfold storeSeen; split <;> rfl
@[simp] theorem storeSeen_platform (i : Nat) (s : State) : (storeSeen i s).platform = s.platform := by
  unfold storeSeen; split <;> rfl
@[simp] theorem storeSeen_fresh (i : Nat) (s : State) : (storeSeen i s).fresh = s.fresh := by unfold storeSeen; split <;> rfl
@[simp] theorem storeSeen_flagged (i : Nat) (s : State) : (storeSeen i s).flagged = s.flagged := by
  unfold storeSeen; split <;> rfl
@[simp] theorem storeSeen_input (i : Nat) (s : State) : (storeSeen i s).input = s.input := by unfold storeSeen; split <;> rfl

end Sys2Proof.Machine
end

