-- ==== Sys2Proof/Laws/Vectors.lean ====
section
/-!
SUPPORT. The 256-bit vector registers: a bit after it is written, what `highest` answers, and what may be dispensed (R144,
R146).
-/

set_option Elab.async false

namespace Sys2Proof.Machine

/-- Every bit of a vector register after bit `v` has been written. -/
theorem hasVector_setBit (r : VectorSet) (v x : Byte) (b : Bool) :
    hasVector (setBit r v.toNat b) x = if x = v then b else hasVector r x := by
  have hx := x.isLt
  have hv := v.isLt
  have he : x = v ↔ x.toNat = v.toNat := ⟨fun h => by rw [h], BitVec.eq_of_toNat_eq⟩
  cases b <;> simp only [setBit, hasVector, he] <;> by_cases g : x.toNat = v.toNat <;> simp [g] <;> omega

/-- In a register that is not empty the number of its highest bit is a vector, its bit is set and no higher bit is. -/
theorem log2_isHighest {r : VectorSet} (h : r ≠ 0#256) : IsHighest r (BitVec.ofNat 8 r.toNat.log2) := by
  have hn : r.toNat ≠ 0 := fun e => h (by apply BitVec.eq_of_toNat_eq; simpa using e)
  have hl : r.toNat.log2 < 256 := (Nat.log2_lt hn).2 r.isLt
  refine ⟨?_, fun w hw => ?_⟩
  · rw [hasVector, BitVec.toNat_ofNat, Nat.mod_eq_of_lt hl, BitVec.getLsbD, Nat.testBit_log2 hn]
  · rw [BitVec.toNat_ofNat, Nat.mod_eq_of_lt hl]
    by_contra hc
    have hb := Nat.testBit_lt_two_pow ((Nat.log2_lt hn).1 (show r.toNat.log2 < w.toNat by omega))
    simp [hasVector, BitVec.getLsbD, hb] at hw

theorem isHighest_unique {r : VectorSet} {v w : Byte} (hv : IsHighest r v) (hw : IsHighest r w) : v = w :=
  BitVec.eq_of_toNat_eq (Nat.le_antisymm (hw.2 v hv.1) (hv.2 w hw.1))

/-- `highest` answers the highest vector, and nothing exactly for the empty register. -/
theorem highest_cases (r : VectorSet) :
    (r = 0#256 ∧ highest r = none) ∨ ∃ v, IsHighest r v ∧ highest r = some v := by
  by_cases h : r = 0#256
  · exact .inl ⟨h, by simp [highest, h]⟩
  · exact .inr ⟨_, log2_isHighest h, by simp [highest, h]⟩

theorem not_isHighest_zero (v : Byte) : ¬IsHighest 0#256 v := fun h => by simpa [hasVector] using h.1

theorem highest_eq_some {r : VectorSet} {v : Byte} : highest r = some v ↔ IsHighest r v := by
  rcases highest_cases r with ⟨h0, h⟩ | ⟨w, hw, h⟩
  · subst h0
    simp [h, not_isHighest_zero]
  · rw [h, Option.some.injEq]
    exact ⟨fun e => e ▸ hw, fun hv => isHighest_unique hw hv⟩

theorem highest_eq_none {r : VectorSet} : highest r = none ↔ r = 0#256 := by
  rcases highest_cases r with ⟨h0, h⟩ | ⟨w, hw, h⟩
  · simp [h0, highest]
  · simp only [h, reduceCtorEq, false_iff]
    rintro rfl
    exact not_isHighest_zero w hw

/-- R115. -/
theorem level_eq (v : Byte) : level v = v.toNat / 16 := by
  have := v.isLt
  simp only [level, BitVec.extractLsb'_toNat, Nat.shiftRight_eq_div_pow]
  omega

/-- R144: the priority of the vectors in service is at least the level of each of them, and is the level of one unless none
is. -/
theorem isrPriority_lt (u : LocalUnit) (n : Nat) :
    isrPriority u < n ↔ 0 < n ∧ ∀ w : Byte, hasVector u.isr w = true → w.toNat / 16 < n := by
  unfold isrPriority
  rcases highest_cases u.isr with ⟨h0, h⟩ | ⟨v, hv, h⟩
  · rw [h]
    simp [h0, hasVector]
  · simp only [h, level_eq]
    constructor
    · intro hn
      refine ⟨by omega, fun w hw => ?_⟩
      have := hv.2 w hw
      omega
    · exact fun hn => hn.2 v hv.1

/-- R146: what `dispensable` answers. -/
theorem dispensable_eq_some {u : LocalUnit} {v : Byte} : dispensable u = some v ↔ MayDispense u v := by
  unfold dispensable MayDispense
  rcases highest_cases u.irr with ⟨h0, h⟩ | ⟨w, hw, h⟩
  · rw [h]
    simp [h0, not_isHighest_zero]
  · have key : processorPriority u < level w ↔ (u.tpr.extractLsb' 4 4).toNat < w.toNat / 16 ∧ 0 < w.toNat / 16 ∧
        ∀ x : Byte, hasVector u.isr x = true → x.toNat / 16 < w.toNat / 16 := by
      rw [level_eq, processorPriority, taskPriority, Nat.max_lt, isrPriority_lt]
    simp only [h]
    constructor
    · intro e
      split at e
      · rename_i hp
        cases e
        exact ⟨hw, key.1 hp⟩
      · cases e
    · rintro ⟨hv, hp⟩
      obtain rfl := isHighest_unique hw hv
      rw [if_pos (key.2 hp)]

theorem dispensable_eq_none {u : LocalUnit} : dispensable u = none ↔ ¬∃ v, MayDispense u v := by
  rw [Option.eq_none_iff_forall_ne_some]
  simp only [ne_eq, dispensable_eq_some, not_exists]

end Sys2Proof.Machine
end

