-- ==== Sys2Proof/Tests/Slice0.lean ====
section
/-!
SUPPORT. Tests: the words of every row of the opcode table written out from the spec, the checks of `WellFormed`, single steps
on small states with the values of spec/95, and for every statement with hypotheses states that meet them.
-/

set_option Elab.async false

namespace Sys2Proof.Tests

open Sys2Proof Sys2Proof.Machine

/-! ### Decoding, a word of every row -/

/-- R30, R112: the selector of a local unit register stands in bits 9:4 of an address of the page 0xFEE00000. -/
theorem test_decode_local_registers :
    ∀ x ∈ [(0xFEE00020, Instr.luId 0 .read), (0xFEE00030, .luVersion 0 .read), (0xFEE00080, .luTpr 0 .read),
        (0xFEE000B0, .luEoi 0 .read), (0xFEE000C0, .luRemote 0 .read), (0xFEE000D0, .luLdr 0 .read),
        (0xFEE000E0, .luDfr 0 .read), (0xFEE000F0, .luSvr 0 .read), (0xFEE00100, .luIsr 0 0 .read),
        (0xFEE00170, .luIsr 0 7 .read), (0xFEE00180, .luTmr 0 0 .read), (0xFEE001B0, .luTmr 0 3 .read),
        (0xFEE00200, .luIrr 0 0 .read), (0xFEE00220, .luIrr 0 2 .read), (0xFEE00300, .luIcrLow 0 .read),
        (0xFEE00310, .luIcrHigh 0 .read), (0xFEE00320, .luLvtTimer 0 .read), (0xFEE00350, .luLvtLint0 0 .read),
        (0xFEE00360, .luLvtLint1 0 .read), (0xFEE00380, .luTimerInit 0 .read), (0xFEE00390, .luTimerCur 0 .read),
        (0xFEE003E0, .luTimerDiv 0 .read)],
      decodeTableWord 32 x.1 = some x.2 ∧ (encode .recommended x.2).word = BitVec.ofNat 32 x.1 := by decide +kernel

/-- R47: the reserved selectors. -/
theorem test_decode_reserved_selectors :
    ∀ x ∈ [(0xFEE00000, Instr.luReserved000000 0 .read), (0xFEE00010, .luReserved000001 0 .read),
        (0xFEE00040, .luReserved000100 0 .read), (0xFEE00050, .luReserved000101 0 .read),
        (0xFEE00060, .luReserved000110 0 .read), (0xFEE00070, .luReserved000111 0 .read),
        (0xFEE00090, .luReserved001001 0 .read), (0xFEE000A0, .luReserved001010 0 .read),
        (0xFEE00280, .luReserved101000 0 .read), (0xFEE00290, .luReserved101001 0 .read),
        (0xFEE002A0, .luReserved101010 0 .read), (0xFEE002B0, .luReserved101011 0 .read),
        (0xFEE002C0, .luReserved101100 0 .read), (0xFEE002D0, .luReserved101101 0 .read),
        (0xFEE002E0, .luReserved101110 0 .read), (0xFEE002F0, .luReserved101111 0 .read),
        (0xFEE00330, .luReserved110011 0 .read), (0xFEE00340, .luReserved110100 0 .read),
        (0xFEE00370, .luReserved110111 0 .read), (0xFEE003A0, .luReserved111010 0 .read),
        (0xFEE003B0, .luReserved111011 0 .read), (0xFEE003C0, .luReserved111100 0 .read),
        (0xFEE003D0, .luReserved111101 0 .read), (0xFEE003F0, .luReserved111111 0 .read)],
      decodeTableWord 32 x.1 = some x.2 ∧ (encode .recommended x.2).word = BitVec.ofNat 32 x.1 := by decide +kernel

/-- R60, R82: the direct registers of the I/O units at 0xFEC00000 and 0xFEC01000. -/
theorem test_decode_direct_registers :
    ∀ x ∈ [(0xFEC00000, Instr.ioSelect 0 0 .read), (0xFEC00010, .ioWindow 0 0 .read), (0xFEC01010, .ioWindow 0 1 .read),
        (0xFEC00020, .ioReservedDirect 0 0 2 .read), (0xFEC003F0, .ioReservedDirect 0 0 63 .read)],
      decodeTableWord 32 x.1 = some x.2 ∧ (encode .recommended x.2).word = BitVec.ofNat 32 x.1 := by decide +kernel

/-- R61, R113 (VEC-REG-29): the indirect indices, presented at the window. -/
theorem test_decode_indices :
    ∀ x ∈ [(0x00#32, Instr.ioIdxId 0 0 .read), (0x01#32, .ioIdxVersion 0 0 .read), (0x10#32, .ioIdxRtLow0To7 0 0 0 .read),
        (0x11#32, .ioIdxRtHigh0To7 0 0 0 .read), (0x1A#32, .ioIdxRtLow0To7 0 0 5 .read),
        (0x1B#32, .ioIdxRtHigh0To7 0 0 5 .read), (0x2E#32, .ioIdxRtLow8To15 0 0 7 .read),
        (0x2F#32, .ioIdxRtHigh8To15 0 0 7 .read), (0x02#32, .ioIdxReserved 0 0 0x02 .read),
        (0x30#32, .ioIdxReserved 0 0 0x30 .read)],
      (decode .recommended ⟨.window, 0, 0, .dword, .read, x.1, []⟩).toOption = some x.2 ∧ (encode .recommended x.2).word = x.1 := by decide +kernel

/-- R48 (the words of 2.5 of spec/95): the command words, mode in bits 10:8. -/
theorem test_decode_commands :
    ∀ x ∈ [(0x00000051, Instr.msgFixed 0 ⟨0, 0, false, false, false, false, 0x51⟩),
        (0x00000961, .msgLowestPriority 0 ⟨0, 0, false, false, false, true, 0x61⟩),
        (0x00000251, .msgReserved010 0 ⟨0, 0, false, false, false, false, 0x51⟩),
        (0x00000308, .msgRemoteRead 0 ⟨0, 0, false, false, false, false, 0x08⟩),
        (0x0000C400, .msgNmi 0 ⟨0, 0, true, true, false, false, 0x00⟩),
        (0x00088500, .msgReset 0 ⟨2, 0, true, false, false, false, 0x00⟩),
        (0x00000651, .msgReserved110 0 ⟨0, 0, false, false, false, false, 0x51⟩),
        (0x00031700, .msgExtint 0 ⟨0, 3, false, false, true, false, 0x00⟩)],
      decodeTableWord 32 x.1 = some x.2 ∧ (encode .recommended x.2).word = BitVec.ofNat 32 x.1 := by decide +kernel

/-- R120, R256: the sixteen JTAG opcodes. -/
theorem test_decode_jtag :
    ∀ x ∈ [(0b0000, Instr.jtagExtest 0 []), (0b0001, .jtagSamplePreload 0 []), (0b0010, .jtagIdcode 0 []),
        (0b0011, .jtagUnlisted0011 0 []), (0b0100, .jtagUnlisted0100 0 []), (0b0101, .jtagUnlisted0101 0 []),
        (0b0110, .jtagUnlisted0110 0 []), (0b0111, .jtagUnlisted0111 0 []), (0b1000, .jtagUnlisted1000 0 []),
        (0b1001, .jtagReserved1001 0 []), (0b1010, .jtagUnlisted1010 0 []), (0b1011, .jtagUnlisted1011 0 []),
        (0b1100, .jtagUnlisted1100 0 []), (0b1101, .jtagUnlisted1101 0 []), (0b1110, .jtagUnlisted1110 0 []),
        (0b1111, .jtagBypass 0 [])],
      decodeTableWord 8 x.1 = some x.2 ∧ (encode .recommended x.2).word = BitVec.ofNat 32 x.1 := by decide +kernel

/-- R125: the two bytes 0x12 and 0x84 at the FIFO; R126: the result port. -/
theorem test_decode_floppy :
    decodeTableWord 16 0x1284 = some (.fdcPerpendicularMode 0x84) ∧
    (encode .recommended (.fdcPerpendicularMode 0x84)).word = 0x1284#32 ∧
    (decode .recommended ⟨.result, 0, 0, .dword, .read, 0x3F#32, []⟩).toOption = some .fdcDumpregResult8 := by decide +kernel

/-- The name of a rejection. -/
def rejection (c : Cycle) : Option DecodeError :=
  match decode .recommended c with
  | .ok _ => none
  | .error e => some e

/-- Every rejection of the decoder: a byte access and an offset access (VEC-REG-14, VEC-REG-15), an address of no page, command
bits 20 and 13, nine index bits, five opcode bits, I/O unit 4 and a first byte that is not 0x12. -/
theorem test_decode_rejects :
    rejection ⟨.bus, 0, 0, .byte, .read, 0xFEE00080#32, []⟩ = some .partialOrOffsetAccess ∧
    rejection ⟨.bus, 0, 0, .dword, .read, 0xFEE00084#32, []⟩ = some .partialOrOffsetAccess ∧
    rejection ⟨.bus, 0, 0, .dword, .read, 0xFEE00400#32, []⟩ = some .outsideDevices ∧
    rejection ⟨.ioSpace, 0, 0, .dword, .read, 0xFEE00080#32, []⟩ = some .outsideDevices ∧
    rejection ⟨.command, 0, 0, .dword, .read, 0x00100051#32, []⟩ = some .reservedCommandBits ∧
    rejection ⟨.command, 0, 0, .dword, .read, 0x00002051#32, []⟩ = some .reservedCommandBits ∧
    rejection ⟨.window, 0, 0, .dword, .read, 0x100#32, []⟩ = some .tooManyBits ∧
    rejection ⟨.tap, 0, 0, .dword, .read, 0x10#32, []⟩ = some .tooManyBits ∧
    rejection ⟨.window, 0, 4, .dword, .read, 0x10#32, []⟩ = some .unitWithoutPage ∧
    rejection ⟨.fifo, 0, 0, .dword, .read, 0x1384#32, []⟩ = some .otherFloppyCommand := by decide +kernel

/-- R81: a platform with the local units at 0xC000 of I/O space and two I/O units. -/
def otherPlatform : Platform := ⟨⟨.io, 0x30#22⟩, [⟨.memory, 0x1#22⟩, ⟨.io, 0x31#22⟩], false⟩

theorem test_decode_other_platform :
    (decode otherPlatform ⟨.ioSpace, 0, 0, .dword, .read, 0xC080#32, []⟩).toOption = some (.luTpr 0 .read) ∧
    (decode otherPlatform ⟨.bus, 0, 0, .dword, .read, 0xC080#32, []⟩).toOption = none ∧
    (decode otherPlatform ⟨.bus, 0, 0, .dword, .read, 0x410#32, []⟩).toOption = some (.ioWindow 0 0 .read) ∧
    (encode otherPlatform (.ioSelect 2 1 .read)) = ⟨.ioSpace, 2, 0, .dword, .read, 0xC400#32, []⟩ := by decide +kernel

/-! ### WellFormed: one ill-formed term for each check -/

theorem test_wellFormed_unit_without_address : wellFormed .recommended (.ioSelect 0 4 .read) = false := by decide
theorem test_wellFormed_window_unit_without_address : wellFormed .recommended (.ioWindow 0 4 .read) = false := by decide
theorem test_wellFormed_index_unit_without_address :
    ∀ i ∈ [Instr.ioIdxId 0 4 .read, .ioIdxVersion 0 4 .read, .ioIdxRtLow0To7 0 4 0 .read,
        .ioIdxRtHigh0To7 0 4 0 .read, .ioIdxRtLow8To15 0 4 0 .read, .ioIdxRtHigh8To15 0 4 0 .read,
        .ioIdxReserved 0 4 0x02 .read, .ioReservedDirect 0 4 2 .read], wellFormed .recommended i = false := by decide
theorem test_wellFormed_direct_selector_taken :
    wellFormed .recommended (.ioReservedDirect 0 0 0 .read) = false ∧ wellFormed .recommended (.ioReservedDirect 0 0 1 .read) = false := by decide
theorem test_wellFormed_index_taken :
    ∀ x ∈ [0x00#8, 0x01#8, 0x10#8, 0x2F#8], wellFormed .recommended (.ioIdxReserved 0 0 x .read) = false := by decide

/-! ### Small states and what a step shows of them -/

/-- A machine of one package. -/
def one (k : Package) : State := { State.reset with packages := [k] }

/-- A machine of three packages. -/
def three (a b c : Package) : State := { State.reset with packages := [a, b, c] }

/-- The start state of 2.3 of spec/95: SVR 0x1FF, PINT 0, PNMI 0. -/
def enabledUnit (u : LocalUnit) : LocalUnit := { u with svr := 0x1FF#32, pint := .low, pnmi := .low }

/-- Package `p` with its local unit enabled and changed by `f`. -/
def pkg (p : Nat) (f : LocalUnit → LocalUnit) : Package :=
  { Package.atReset true (BitVec.ofNat 8 p) with lu := f (enabledUnit (Package.atReset true (BitVec.ofNat 8 p)).lu) }

/-- The register with exactly the vectors listed. -/
def vectors (l : List Nat) : VectorSet := l.foldl (fun r v => setBit r v true) 0#256

/-- The state of an outcome. -/
def next? (r : Res) : Option State :=
  match r with
  | .next t => some t
  | _ => none

/-- The fault of an outcome. -/
def fault? (r : Res) : Option Fault :=
  match r with
  | .fault e => some e
  | _ => none

/-- The refusal of an outcome. -/
def refusal? (r : Res) : Option Refusal :=
  match r with
  | .refused e => some e
  | _ => none

/-- Package `p` after an outcome. -/
def package? (r : Res) (p : Nat) : Option Package := (next? r).bind fun t => t.packages[p]?

/-- Local unit `p` after an outcome. -/
def local? (r : Res) (p : Nat) : Option LocalUnit := (package? r p).map fun k => k.lu

/-- What processor `p` has received after an outcome. -/
def data? (r : Res) (p : Nat) : Option Word := (package? r p).map fun k => k.cpu.data

/-- Redirection entry `j` of I/O unit `n` after an outcome. -/
def entry? (r : Res) (n : Nat) (j : Fin 16) : Option Word64 := (package? r n).map fun k => k.iou.rt.get j

/-- The address of a register of a local unit. -/
abbrev luReg (sel : BitVec 6) : Word := registerAddress Platform.recommended.lu sel

/-- A write that is not posted. -/
def wr (v : Word) : Access := .write v false

/-! ### Single steps: local unit registers -/

/-- VEC-REG-20. -/
theorem test_id_read : data? (exec (.luId 1 .read) State.reset) 1 = some 0x01000000#32 := by decide +kernel
/-- VEC-RST-6. -/
theorem test_id_write :
    (local? (exec (.luId 0 (wr 0x05000000#32)) State.reset) 0).map (fun u => (u.id, u.arbId)) = some (0x05000000#32, 0#8) := by
  decide +kernel
/-- VEC-REG-12. -/
theorem test_version_write : exec (.luVersion 0 (wr 0xFFFFFFFF#32)) (one (pkg 0 id)) = .next (one (pkg 0 id)) := by rfl
/-- VEC-REG-16. -/
theorem test_tpr_write :
    (local? (exec (.luTpr 0 (wr 0xFFFFFFFF#32)) (one (pkg 0 id))) 0).map (fun u => u.tpr) = some 0xFF#32 := by decide +kernel
/-- VEC-LU-9. -/
theorem test_tpr_lowered :
    (local? (exec (.luTpr 0 (wr 0xE0#32)) (one (pkg 0 fun u => { u with tpr := 0xF0#32, irr := vectors [0xFF] }))) 0).map
      (fun u => (u.pint, u.commit)) = some (.high, .internal) := by decide +kernel
/-- VEC-LU-21. -/
theorem test_eoi_nested :
    (local? (exec (.luEoi 0 (wr 0#32)) (one (pkg 0 fun u => { u with isr := vectors [0x32, 0x51] }))) 0).map
      (fun u => u.isr) = some (vectors [0x32]) := by decide +kernel
/-- The end of VEC-INT-2: the lower vector that waits is requested after the end of interrupt. -/
theorem test_eoi_dispenses :
    (local? (exec (.luEoi 0 (wr 0xDEADBEEF#32))
      (one (pkg 0 fun u => { u with isr := vectors [0x51], irr := vectors [0x32] }))) 0).map
      (fun u => (u.isr, u.pint)) = some (0#256, .high) := by decide +kernel
/-- R35, R49. -/
theorem test_remote_read :
    data? (exec (.luRemote 0 .read) (one (pkg 0 fun u => { u with remote := 0x40#32 }))) 0 = some 0x40#32 := by decide +kernel
/-- VEC-REG-19. -/
theorem test_ldr_write :
    (local? (exec (.luLdr 0 (wr 0x01000000#32)) State.reset) 0).map (fun u => u.ldr) = some 0x01000000#32 := by decide +kernel
/-- R365: reset value. -/
theorem test_dfr_read : data? (exec (.luDfr 2 .read) State.reset) 2 = some 0#32 := by decide +kernel
/-- VEC-REG-17, VEC-LU-1. -/
theorem test_svr_enables :
    (local? (exec (.luSvr 0 (wr 0xFFFFFFFF#32)) State.reset) 0).map (fun u => (u.svr, u.pint, u.pnmi)) =
      some (0x1FF#32, .low, .low) := by decide +kernel
/-- VEC-LU-25. -/
theorem test_svr_disable_stops :
    fault? (exec (.luSvr 0 (wr 0xFF#32)) (one (pkg 0 id))) = some .localUnitDisabledBySvr := by decide +kernel
/-- VEC-BIT-2: vector 0x1F is bit 31 of word 0. -/
theorem test_isr_read :
    data? (exec (.luIsr 0 0 .read) (one (pkg 0 fun u => { u with isr := vectors [0x1F] }))) 0 = some 0x80000000#32 := by
  decide +kernel
/-- VEC-BIT-7: vector 0x61 is bit 1 of word 3. -/
theorem test_tmr_read :
    data? (exec (.luTmr 0 3 .read) (one (pkg 0 fun u => { u with tmr := vectors [0x61] }))) 0 = some 2#32 := by decide +kernel
/-- 2.2 of spec/95: 0x45 and 0x51 are 0x00020020 of word 2. -/
theorem test_irr_read :
    data? (exec (.luIrr 0 2 .read) (one (pkg 0 fun u => { u with irr := vectors [0x45, 0x51] }))) 0 = some 0x00020020#32 := by
  decide +kernel
/-- VEC-REG-13. -/
theorem test_irr_write : exec (.luIrr 0 0 (wr 0xFFFFFFFF#32)) (one (pkg 0 id)) = .next (one (pkg 0 id)) := by rfl
/-- VEC-ICR-28: bit 12 of the written word is ignored, the command is sent. -/
theorem test_icr_low_write :
    (next? (exec (.luIcrLow 0 (wr 0x00001051#32)) (one (pkg 0 id)))).map (fun t => t.icc.queue.map fun m => m.vector) =
      some [0x51#8] := by decide +kernel
/-- VEC-ICR-27. -/
theorem test_icr_low_busy :
    fault? (exec (.luIcrLow 0 (wr 0x51#32)) (one (pkg 0 fun u => { u with icrLow := 0x1000#32 }))) =
      some .icrWrittenWhileBusy := by decide +kernel
/-- VEC-ICR-26. -/
theorem test_icr_high_write :
    (next? (exec (.luIcrHigh 0 (wr 0x02000000#32)) (one (pkg 0 id)))).map
      (fun t => (t.icc.queue, t.packages.map fun k => k.lu.icrHigh)) = some ([], [0x02000000#32]) := by decide +kernel
/-- 2.1 of spec/95, the note to VEC-REG-18. -/
theorem test_lvt_timer_write :
    (local? (exec (.luLvtTimer 0 (wr 0xFFFFFFFF#32)) State.reset) 0).map (fun u => u.lvtTimer) = some 0x000387FF#32 := by
  decide +kernel
/-- VEC-REG-18. -/
theorem test_lvt_lint0_write :
    (local? (exec (.luLvtLint0 0 (wr 0xFFFFFFFF#32)) State.reset) 0).map (fun u => u.lvtLint0) = some 0x000187FF#32 := by
  decide +kernel
/-- VEC-REG-6. -/
theorem test_lvt_lint1_read : data? (exec (.luLvtLint1 0 .read) State.reset) 0 = some 0x00010000#32 := by decide +kernel
/-- R58 (default timer, log 28): the count is loaded by the write of the initial count. -/
theorem test_timer_init_write :
    (local? (exec (.luTimerInit 0 (wr 7#32)) State.reset) 0).map (fun u => (u.timerInit, u.timerCur)) = some (7#32, 7#32) := by
  decide +kernel
/-- R45, R49. -/
theorem test_timer_cur_write : exec (.luTimerCur 0 (wr 9#32)) (one (pkg 0 id)) = .next (one (pkg 0 id)) := by rfl
/-- R365. -/
theorem test_timer_div_read : data? (exec (.luTimerDiv 0 .read) State.reset) 0 = some 0#32 := by decide +kernel
/-- VEC-REG-11, at every reserved selector: nothing but the record of it. -/
theorem test_reserved_write :
    ∀ c ∈ reservedLocalRows, exec (c 0 (wr 1#32)) (one (pkg 0 id)) =
      .next { one (pkg 0 id) with flagged := [.reservedRegister] } := by
  intro c hc
  simp only [reservedLocalRows, List.mem_cons, List.not_mem_nil, or_false] at hc
  rcases hc with rfl | rfl | rfl | rfl | rfl | rfl | rfl | rfl | rfl | rfl | rfl | rfl | rfl | rfl | rfl | rfl | rfl | rfl |
    rfl | rfl | rfl | rfl | rfl | rfl <;> rfl

/-! ### I/O unit -/

/-- A package whose I/O unit is `f` of the reset one. -/
def ioPkg (f : IoUnit → IoUnit) : Package := { pkg 0 id with iou := f IoUnit.cleared }

/-- VEC-REG-22. -/
theorem test_select_write :
    (package? (exec (.ioSelect 0 0 (wr 0xABCDEF10#32)) State.reset) 0).map (fun k => k.iou.select) = some 0x10#32 := by
  decide +kernel
/-- VEC-REG-23. -/
theorem test_window_read :
    data? (exec (.ioWindow 0 0 .read) (one (ioPkg fun u => { u with select := 0x10#32 }))) 0 = some 0x00010000#32 := by
  decide +kernel
/-- VEC-REG-25. -/
theorem test_window_version_write :
    exec (.ioWindow 0 0 (wr 5#32)) (one (ioPkg fun u => { u with select := 1#32 })) =
      .next (one (ioPkg fun u => { u with select := 1#32 })) := by rfl
/-- VEC-REG-28: nothing but the data received and the counter of free values changes. -/
theorem test_reserved_direct_read :
    (package? (exec (.ioReservedDirect 0 0 2 .read) (one (ioPkg id))) 0).map (fun k => (k.iou, k.lu)) =
      some ((ioPkg id).iou, (ioPkg id).lu) := by rfl
/-- VEC-IOU-1. -/
theorem test_index_id_write :
    (package? (exec (.ioIdxId 0 0 (wr 0x03000000#32)) State.reset) 0).map (fun k => k.iou.id) = some 0x03000000#32 := by
  decide +kernel
/-- VEC-REG-25, by its index. -/
theorem test_index_version_write :
    (package? (exec (.ioIdxVersion 0 0 (wr 5#32)) State.reset) 0).map (fun k => (k.iou.id, k.iou.select)) =
      some (0#32, 1#32) := by decide +kernel
/-- VEC-IOU-7, VEC-IOU-10. -/
theorem test_index_low_write :
    entry? (exec (.ioIdxRtLow0To7 0 0 5 (wr 0x0000C061#32)) State.reset) 0 5 = some 0x0000000000008061#64 := by decide +kernel
/-- VEC-IOU-2, the first half. -/
theorem test_index_high_write :
    entry? (exec (.ioIdxRtHigh0To7 0 0 3 (wr 0x02000000#32)) State.reset) 0 3 = some 0x0200000000010000#64 := by decide +kernel
/-- R205, R113: entry 15. -/
theorem test_index_low_upper_half :
    entry? (exec (.ioIdxRtLow8To15 0 0 7 (wr 0x00000051#32)) State.reset) 0 15 = some 0x0000000000000051#64 := by decide +kernel
/-- VEC-REG-24. -/
theorem test_index_high_upper_half :
    data? (exec (.ioIdxRtHigh8To15 0 0 7 .read) State.reset) 0 = some 0#32 := by decide +kernel
/-- VEC-REG-27. -/
theorem test_index_reserved_write :
    (next? (exec (.ioIdxReserved 0 0 0x30 (wr 0#32)) State.reset)).map (fun t => t.flagged) = some [.reservedRegister] := by
  decide +kernel

/-! ### Commands: what a command leaves in the register and on the bus -/

/-- The low word and the waiting message of local unit 0 after an outcome. -/
def sent? (r : Res) : Option (Option Word × List (Byte × DeliveryMode × Word × Shorthand)) :=
  (next? r).map fun t =>
    ((t.packages[0]?).map fun k => k.lu.icrLow, t.icc.queue.map fun m => (m.vector, m.mode, m.destination, m.shorthand))

/-- Unit 0 enabled, with destination 2. -/
def sender : State := one (pkg 0 fun u => { u with icrHigh := 0x02000000#32 })

/-- VEC-ICR-1. -/
theorem test_fixed :
    sent? (exec (.msgFixed 0 ⟨0, 0, false, false, false, false, 0x51⟩) sender) =
      some (some 0x1051#32, [(0x51#8, .fixed, 2#32, .none)]) := by decide +kernel
/-- VEC-ICR-3. -/
theorem test_fixed_self :
    (local? (exec (.msgFixed 0 ⟨1, 0, false, false, false, false, 0x51⟩) sender) 0).map (fun u => (u.icrLow, u.irr, u.pint)) =
      some (0x00040051#32, vectors [0x51], .high) := by decide +kernel
/-- VEC-LP-1, the sending. -/
theorem test_lowest_priority :
    sent? (exec (.msgLowestPriority 0 ⟨0, 0, false, false, false, true, 0x61⟩) sender) =
      some (some 0x1961#32, [(0x61#8, .lowestPriority, 0x02000000#32, .none)]) := by decide +kernel
/-- VEC-ICR-19, the sending. -/
theorem test_remote_read_sent :
    sent? (exec (.msgRemoteRead 0 ⟨0, 0, false, false, false, false, 0x08⟩) sender) =
      some (some 0x11308#32, [(0x08#8, .remoteRead, 2#32, .none)]) := by decide +kernel
/-- VEC-ICR-21. -/
theorem test_remote_read_broadcast :
    fault? (exec (.msgRemoteRead 0 ⟨0, 0, false, false, false, false, 0x08⟩)
      (one (pkg 0 fun u => { u with icrHigh := 0xFF000000#32 }))) = some .icrCombination := by decide +kernel
/-- VEC-ICR-11, the sending. -/
theorem test_nmi :
    sent? (exec (.msgNmi 0 ⟨0, 0, true, true, false, false, 0x00⟩) sender) =
      some (some 0xD400#32, [(0x00#8, .nmi, 2#32, .none)]) := by decide +kernel
/-- VEC-ICR-12. -/
theorem test_nmi_edge :
    fault? (exec (.msgNmi 0 ⟨0, 0, false, false, false, false, 0x00⟩) sender) = some .deliveryTriggerCombination := by
  decide +kernel
/-- VEC-ICR-13, the sending; R171 item 7: the destination is all ones. -/
theorem test_reset :
    sent? (exec (.msgReset 0 ⟨3, 0, true, true, false, false, 0x00⟩) sender) =
      some (some 0x000CD500#32, [(0x00#8, .reset, 0xFFFFFFFF#32, .allExclSelf)]) := by decide +kernel
/-- VEC-ICR-14. -/
theorem test_reset_including_self :
    fault? (exec (.msgReset 0 ⟨2, 0, true, true, false, false, 0x00⟩) sender) = some .icrCombination := by decide +kernel
/-- VEC-ICR-24, the sending. -/
theorem test_extint :
    sent? (exec (.msgExtint 0 ⟨0, 0, false, false, false, false, 0x00⟩) sender) =
      some (some 0x1700#32, [(0x00#8, .extInt, 2#32, .none)]) := by decide +kernel
/-- VEC-ICR-23. -/
theorem test_extint_self :
    fault? (exec (.msgExtint 0 ⟨1, 0, false, false, false, false, 0x00⟩) sender) = some .icrCombination := by decide +kernel
/-- VEC-ICR-25. -/
theorem test_reserved_modes :
    fault? (exec (.msgReserved010 0 ⟨0, 0, false, false, false, false, 0x51⟩) sender) = some .icrCombination ∧
    fault? (exec (.msgReserved110 0 ⟨0, 0, false, false, false, false, 0x51⟩) sender) = some .icrCombination := by
  decide +kernel

/-! ### Events -/

/-- A message of unit 0. -/
def msg (mode : DeliveryMode) (v : Byte) (dest : Word) (sh : Shorthand) : Message where
  source      := .local 0
  srcId       := 0#8
  vector      := v
  mode        := mode
  destMode    := .physical
  level       := true
  trigger     := .edge
  destination := dest
  shorthand   := sh

/-- Units 0, 1 and 2, enabled, and the bus carrying `m`. -/
def carrying (m : Message) : State :=
  { three (pkg 0 fun u => { u with icrLow := 0x1000#32 }) (pkg 1 id) (pkg 2 id) with icc := ⟨[], some m⟩ }

/-- The IRR and the delivery state of the three units after an outcome. -/
def irrs? (r : Res) : Option (List (VectorSet × Bool)) :=
  (next? r).map fun t => t.packages.map fun k => (k.lu.irr, sendPending k.lu.icrLow)

/-- VEC-ICR-1. -/
theorem test_deliver_physical :
    irrs? (onEvent (carrying (msg .fixed 0x51 2#32 .none)) (.deliver []) []) =
      some [(0#256, false), (0#256, false), (vectors [0x51], false)] := by decide +kernel
/-- VEC-ICR-5. -/
theorem test_deliver_all_but_self :
    irrs? (onEvent (carrying (msg .fixed 0x51 0xFFFFFFFF#32 .allExclSelf)) (.deliver []) []) =
      some [(0#256, false), (vectors [0x51], false), (vectors [0x51], false)] := by decide +kernel
/-- VEC-LP-4, with the tie of VEC-LP-3: the choice of the schedule wins. -/
theorem test_deliver_lowest_priority :
    irrs? (onEvent (carrying (msg .lowestPriority 0x61 0xFF#32 .none)) (.deliver [1]) []) =
      some [(0#256, false), (vectors [0x61], false), (0#256, false)] := by decide +kernel
/-- VEC-RST-2. -/
theorem test_deliver_reset :
    (local? (onEvent (carrying { msg .reset 0x00 2#32 .none with trigger := .level }) (.deliver []) []) 2).map
      (fun u => (u.id, u.svr, u.pint, u.prst)) = some (0x02000000#32, 0#32, .z, true) := by decide +kernel
/-- VEC-ICR-16. -/
theorem test_deliver_reset_deassert :
    (next? (onEvent (carrying { msg .reset 0x00 0#32 .allInclSelf with trigger := .level, level := false }) (.deliver [])
      [])).map (fun t => t.packages.map fun k => k.lu.arbId) = some [0#8, 1#8, 2#8] := by decide +kernel
/-- VEC-ICR-19. -/
theorem test_deliver_remote_read :
    (local? (onEvent
      { three (pkg 0 fun u => { u with icrLow := 0x11308#32 }) (pkg 1 fun u => { u with tpr := 0x40#32 }) (pkg 2 id) with
        icc := ⟨[], some (msg .remoteRead 0x08 1#32 .none)⟩ } (.deliver []) []) 0).map
      (fun u => (u.remote, u.icrLow)) = some (0x40#32, 0x20308#32) := by decide +kernel

/-- A unit with a request for vector 0x51. -/
def requesting : Package :=
  { pkg 0 fun u => { u with irr := vectors [0x51], commit := .internal, pint := .high } with
    cpu := { Cpu.started with intrEnabled := true } }

/-- VEC-INT-1, the first cycle; the write buffer is empty, so that nothing is drained. -/
theorem test_acknowledge_first :
    (local? (onEvent (one requesting) (.intaFirst 0) []) 0).map (fun u => (u.intaVector, u.irrFrozen)) =
      some (0x51#8, true) := by decide +kernel
/-- VEC-INT-1, the second cycle. -/
theorem test_acknowledge_second :
    (package? (onEvent (one { requesting with lu := acknowledgeFirst requesting.lu }) (.intaSecond 0 0x08) []) 0).map
      (fun k => (k.cpu.data, k.lu.isr, k.lu.irr, k.lu.pint)) = some (0x51#32, vectors [0x51], 0#256, .low) := by decide +kernel
/-- VEC-INT-11. -/
theorem test_acknowledge_masked :
    (local? (onEvent (one { requesting with cpu := Cpu.started }) (.intaFirst 0) []) 0) = some requesting.lu := by
  decide +kernel

/-- VEC-LINT-3, the second sampling. -/
theorem test_lint_edge :
    (local? (onEvent (one (pkg 0 fun u => { u with lvtLint0 := 0x51#32, lint0 := ⟨true, .seen⟩ })) (.lintSample 0 .lint0) [])
      0).map (fun u => (u.irr, u.pint, u.lint0.edge)) = some (vectors [0x51], .high, .waiting) := by decide +kernel
/-- VEC-LINT-6. -/
theorem test_lint_level :
    (local? (onEvent (one (pkg 0 fun u => { u with lvtLint1 := 0x8061#32 })) (.lintPin 0 .lint1 true) []) 0).map
      (fun u => (u.irr, u.tmr)) = some (vectors [0x61], vectors [0x61]) := by decide +kernel
/-- VEC-IOU-6: of two seen edges the lower pin is served first. -/
theorem test_io_edge_order :
    (next? (onEvent (one (ioPkg fun u =>
      { u with
        rt := (u.rt.set 0 0x50#64).set 15 0x5F#64
        pins := (u.pins.set 0 ⟨true, .seen⟩).set 15 ⟨false, .seen⟩ })) (.ioSample 0) [])).map
      (fun t => t.icc.queue.map fun m => (m.source, m.vector)) = some [(.io 0 0, 0x50#8)] := by decide +kernel
/-- VEC-RST-1. -/
theorem test_hardware_reset :
    (local? (onEvent (one (pkg 2 id)) (.resetAssert 0) []) 0).map
      (fun u => (u.id, u.lvtTimer, u.pint, u.prst, u.extInta)) =
      some (0x02000000#32, 0x00010000#32, .z, true, true) := by decide +kernel

/-- R340, D24: the platform says of each start whether it was the first reset. -/
theorem test_first_reset :
    (package? (onEvent State.reset (.firstReset 2 false) []) 2).map (fun k => k.firstReset) = some false ∧
    (package? (onEvent (one { pkg 0 id with firstReset := false, resetPin := true }) (.resetRelease 0) []) 0).map
      (fun k => k.firstReset) = some false := by decide +kernel
/-- R245, R368: a hardware reset under extest leaves the outputs with the scan path, so that a reset is due still. -/
theorem test_reset_under_extest :
    (package? (onEvent (one { pkg 0 id with tap := { Tap.cleared with ir := 0b0000#4 }, needsReset := true }) (.resetAssert 0) [])
      0).map (fun k => (k.needsReset, k.resetPin)) = some (true, true) := by decide +kernel
/-- R161, R172 (log 22): addressed to a disabled unit a Remote Read leaves the status in progress. -/
theorem test_remote_read_disabled :
    (local? (onEvent
      { three (pkg 0 fun u => { u with icrLow := 0x11308#32 }) (pkg 1 id) (Package.atReset true 2#8) with
        icc := ⟨[], some (msg .remoteRead 0x08 2#32 .none)⟩ } (.deliver []) []) 0).map
      (fun u => (u.remote, u.icrLow)) = some (0#32, 0x10308#32) := by decide +kernel
/-- R90 (log 14): a unit in I/O space is reached whether or not a page in memory is mapped uncached. -/
theorem test_io_space_unit :
    data? (exec (.luId 0 .read) { one { pkg 0 id with cpu := { Cpu.started with pageUncached := false } } with
      platform := otherPlatform }) 0 = some 0#32 := by decide +kernel
/-- R370: a disabled unit with a message waiting uses the bus (log 18). -/
theorem test_duplicate_waiting :
    refusal? (onEvent
      { three (pkg 0 id) (Package.atReset true 0#8) (pkg 2 id) with
        icc := ⟨[{ msg .nmi 0 2#32 .none with source := .local 1 }], some (msg .fixed 0x51 2#32 .none)⟩ } (.deliver []) []) =
      some .duplicateUnitId := by decide +kernel

/-- R58, R176, R180: a timer entry programmed NMI and Level drives PNMI; NMI and Edge stops. -/
theorem test_timer_nmi :
    (local? (onEvent (one (pkg 0 fun u => { u with lvtTimer := 0x8400#32, timerCur := 1#32 })) (.timerTick 0) []) 0).map
      (fun u => (u.nmiOut, u.pnmi)) = some (true, .high) ∧
    fault? (onEvent (one (pkg 0 fun u => { u with lvtTimer := 0x400#32, timerCur := 1#32 })) (.timerTick 0) []) =
      some .deliveryTriggerCombination := by decide +kernel
/-- R210, VEC-IOU-8: an accepted level message sets the remote IRR of its entry and ends its delivery state. -/
theorem test_deliver_io_level :
    (entry? (onEvent { three (pkg 0 id) (pkg 1 id) { pkg 2 id with
        iou := { IoUnit.cleared with rt := IoUnit.cleared.rt.set 3 0x9061#64 } } with
      icc := ⟨[], some { msg .fixed 0x61 1#32 .none with source := .io 2 3, srcId := 9#8, trigger := .level }⟩ }
      (.deliver []) []) 2 3) = some 0xC061#64 := by decide +kernel
/-- R93: the writer sees a byte at once, another processor when it comes into its sight. -/
theorem test_memory_views :
    (next? (onCycle State.reset ⟨.bus, 0, 0, .byte, wr 0x77#32, 0x1000#32, []⟩ [])).map
      (fun t => (t.packages.map fun k => memRead k.view 0x1000, t.unseen.map fun x => x.observer)) =
      some ([0x77#8, 0#8, 0#8, 0#8], [1, 2, 3]) ∧
    (next? (onEvent { State.reset with unseen := [⟨2, 0x1000#32, 0x77#8⟩] } (.storeSeen 0) [])).map
      (fun t => t.packages.map fun k => memRead k.view 0x1000) = some [0#8, 0#8, 0x77#8, 0#8] := by decide +kernel
/-- R95, R299: with J7 as normally connected 0x3F5 selects the floppy controller and 0x375 does not. -/
theorem test_io_space :
    refusal? (onCycle State.reset ⟨.ioSpace, 0, 0, .byte, .read, 0x3F5#32, []⟩ []) = some .floppyPortUnassigned ∧
    refusal? (onCycle State.reset ⟨.ioSpace, 0, 0, .byte, .read, 0x375#32, []⟩ []) = some .ioPortOutsideSpec := by
  decide +kernel
/-- R9: a package without a processor issues nothing. -/
theorem test_no_processor :
    fault? (exec (.luTpr 0 .read) (one { pkg 0 id with hasCpu := false })) = some .noSuchUnit := by decide +kernel

/-! ### JTAG and floppy controller -/

/-- The TAP of package 0 after an outcome. -/
def tap? (r : Res) : Option Tap := (package? r 0).map fun k => k.tap

/-- A package whose TAP is `f` of the reset one. -/
def tapPkg (f : Tap → Tap) : Package := { pkg 0 id with tap := f Tap.cleared }

/-- VEC-JTAG-4: 32 shifts give 0x1489A013, bit 0 first. -/
theorem test_idcode :
    (tap? (tapClocks 0 (dataScan (List.replicate 32 false)) (one (tapPkg fun t => { t with state := .runTestIdle })))).map
      (fun t => t.scanOut) =
      some [true, true, false, false, true, false, false, false, false, false, false, false, false, true, false, true,
        true, false, false, true, false, false, false, true, false, false, true, false, true, false, false, false] := by
  decide +kernel
/-- VEC-JTAG-5. -/
theorem test_bypass :
    (tap? (tapClocks 0 (dataScan [true, false, true, true])
      (one (tapPkg fun t => { t with state := .runTestIdle, ir := 0b1111#4 })))).map (fun t => t.scanOut) =
      some [false, true, false, true] := by decide +kernel
/-- VEC-JTAG-7: a bit for cell c is presented at shift 138 - c; here cell 118 alone. -/
theorem test_preload :
    (tap? (tapClocks 0 (shifts (List.replicate 19 false ++ true :: List.replicate 117 false) ++ moves [true, false])
      (one (tapPkg fun t => { t with state := .shiftDr, ir := 0b0001#4 })))).map (fun t => t.bsrLatch) =
      some (1#137 <<< 117) := by decide +kernel
/-- VEC-JTAG-7: the falling edge in Update-IR latches extest, and the package needs a reset. -/
theorem test_extest :
    (package? (tapFall 0 (one (tapPkg fun t => { t with state := .updateIr, irShift := 0b0000#4 }))) 0).map
      (fun k => (k.tap.ir, k.needsReset)) = some (0b0000#4, true) := by decide +kernel
/-- VEC-JTAG-3, U10: the reserved opcode and the unlisted ones. -/
theorem test_jtag_refused :
    ∀ c ∈ [Instr.jtagReserved1001, .jtagUnlisted0011, .jtagUnlisted0100, .jtagUnlisted0101, .jtagUnlisted0110,
        .jtagUnlisted0111, .jtagUnlisted1000, .jtagUnlisted1010, .jtagUnlisted1011, .jtagUnlisted1100, .jtagUnlisted1101,
        .jtagUnlisted1110], refusal? (exec (c 0 []) (one (pkg 0 id))) = some .jtagOpcode := by
  decide +kernel

/-- The number of cells of a type. -/
def cells (x : CellType) : Nat := (scanCells.filter fun c => c.type = x).length

/-- R261: 39 input, 25 tri-state output, 45 bidirectional and 28 control cells, 137 in all. -/
theorem test_cell_counts : cells .i = 39 ∧ cells .t = 25 ∧ cells .b = 45 ∧ cells .c = 28 := by
  decide +kernel

/-- VEC-FDC-1 p: a second command with OW replaces all four drive bits. -/
theorem test_perpendicular :
    (next? (exec (.fdcPerpendicularMode 0x88)
      { State.reset with fdc := { Fdc.cleared with pr := ⟨false, false, false, true, false, false⟩ } })).map
      (fun t => (t.fdc.pr, t.fdc.phase)) = some (⟨false, false, true, false, false, false⟩, .command) := by decide +kernel
/-- VEC-FDC-1 f: OW clear keeps them. -/
theorem test_perpendicular_suspend :
    (next? (exec (.fdcPerpendicularMode 0x02)
      { State.reset with fdc := { Fdc.cleared with pr := ⟨false, false, false, true, false, false⟩ } })).map
      (fun t => t.fdc.pr) = some ⟨false, false, false, true, true, false⟩ := by decide +kernel
/-- N51: a byte that begins another command stores nothing. -/
theorem test_other_floppy_command :
    (next? (fifoWrite 0x87
      { State.reset with fdc := { Fdc.cleared with pr := ⟨false, true, false, false, false, false⟩ } })).map
      (fun t => t.fdc.pr) = some ⟨false, true, false, false, false, false⟩ := rfl
/-- VEC-FDC-3: bits 5 to 0 after 0x87, at any value of bits 7 and 6. -/
theorem test_dumpreg :
    ∀ hi : BitVec 2, (dumpregByte hi ⟨false, false, false, true, true, true⟩).extractLsb' 0 6 = 0b000111#6 := by decide +kernel
/-- VEC-FDC-1 a, at 1 Mbps and at 500 kbps, on drive 0 and on drive 1. -/
theorem test_configure :
    configure ⟨false, false, false, true, false, false⟩ 0 .mbps1 125 = ⟨.row11, true, 0, 41, 38, 43, 33⟩ ∧
    configure ⟨false, false, false, true, false, false⟩ 0 .kbps500 125 = ⟨.row01, true, 0, 22, 19, 24, 33⟩ ∧
    configure ⟨false, false, false, true, false, false⟩ 1 .mbps1 125 = ⟨.row00, false, 125, 22, 0, 24, 33⟩ := by decide +kernel
/-- VEC-FDC-5. -/
theorem test_chip_select :
    pldSelect 0b1111110#7 false true = false ∧ pldSelect 0b1101110#7 false true = true ∧
    pldSelect 0b1101110#7 false false = false ∧ pldSelect 0b1111110#7 true true = true := by decide
/-- VEC-FDC-6: DENOUT 00 and 11 at 300 kbps. -/
theorem test_density :
    pldDrvden0 false false (densityOutputs .kbps300 false) = false ∧
    pldDrvden1 false false (densityOutputs .kbps300 false) = true ∧
    pldDrvden0 true true (densityOutputs .kbps300 false) = true ∧
    pldDrvden1 true true (densityOutputs .kbps300 false) = false := by decide

/-! ### States that meet the hypotheses of the statements -/

theorem reaches (k : Package) {l : Location} (h : k.hasCpu = true ∧ cpuHeld k = false ∧ k.cpu.pageUncached = true) :
    ReachesPage (one k) 0 k l := ⟨rfl, h.1, h.2.1, fun _ => h.2.2⟩

theorem ready (k : Package)
    (h : k.hasCpu = true ∧ k.needsReset = false ∧ unitHeld k = false ∧ cpuHeld k = false ∧ k.cpu.pageUncached = true) :
    BusReady (one k) 0 k := ⟨reaches k ⟨h.1, h.2.2.2⟩, h.2.1, h.2.2.1⟩

/-- The package most witnesses use: unit 0 enabled, its processor running. -/
def base : Package := pkg 0 id

theorem base_ready : BusReady (one base) 0 base ∧ base.cpu.wbuf = [] := ⟨ready _ (by decide +kernel), rfl⟩

theorem base_reaches {l : Location} : ReachesPage (one base) 0 base l := reaches _ (by decide +kernel)

/-- A package on which extest has been latched. -/
def duePkg : Package := { base with needsReset := true }

theorem due_reaches {l : Location} : ReachesPage (one duePkg) 0 duePkg l := reaches _ (by decide +kernel)

/-- The last package of the machine after reset. -/
theorem reset_reaches {l : Location} : ReachesPage State.reset 3 (Package.atReset true 3#8) l :=
  ⟨rfl, rfl, by decide +kernel, fun _ => rfl⟩

theorem reset_ready :
    BusReady State.reset 3 (Package.atReset true 3#8) ∧ (Package.atReset true 3#8).cpu.wbuf = [] :=
  ⟨⟨reset_reaches, rfl, by decide +kernel⟩, rfl⟩

theorem witness_DecodeOfEncode :
    (Platform.recommended.lu :: Platform.recommended.ious).Nodup ∧ (otherPlatform.lu :: otherPlatform.ious).Nodup ∧
    WellFormed otherPlatform (.ioSelect 0 1 .read) ∧
    WellFormed .recommended (.ioReservedDirect 3 3 2 .read) ∧ WellFormed .recommended (.ioReservedDirect 0 0 63 .read) ∧
    WellFormed .recommended (.ioIdxReserved 0 3 0x02 .read) ∧ WellFormed .recommended (.ioIdxReserved 0 0 0x0F .read) ∧
    WellFormed .recommended (.ioIdxReserved 0 0 0x30 .read) ∧ WellFormed .recommended (.ioIdxReserved 0 0 0xFF .read) := by
  decide +kernel

theorem witness_EncodeOfDecode :
    decode .recommended ⟨.bus, 3, 7, .dword, wr 5#32, 0xFEC003F0#32, [true]⟩ = .ok (.ioReservedDirect 3 0 63 (wr 5#32)) ∧
    decode .recommended ⟨.window, 0, 3, .dword, .read, 0x2F#32, []⟩ = .ok (.ioIdxRtHigh8To15 0 3 7 .read) ∧
    decode .recommended ⟨.command, 1, 0, .byte, .read, 0xFDFFF#32, []⟩ = .ok (.msgExtint 1 ⟨3, 3, true, true, true, true, 0xFF⟩) ∧
    decode .recommended ⟨.tap, 2, 0, .dword, .read, 0xF#32, [true]⟩ = .ok (.jtagBypass 2 [true]) ∧
    decode .recommended ⟨.fifo, 0, 0, .dword, .read, 0x12FF#32, []⟩ = .ok (.fdcPerpendicularMode 0xFF) ∧
    decode .recommended ⟨.result, 0, 0, .dword, .read, 0xFF#32, []⟩ = .ok .fdcDumpregResult8 := ⟨rfl, rfl, rfl, rfl, rfl, rfl⟩

theorem witness_StepRunsDecoded :
    (State.reset.withFetchWord 32 0xFEE00080).input = .op (tableCycle 32 0xFEE00080) :: [] ∧
    decode .recommended (tableCycle 32 0xFEE00080) = .ok (.luTpr 0 .read) := ⟨rfl, rfl⟩

theorem base_inv : base.Inv .recommended where
  lu := ⟨(by decide : (0#256).extractLsb' 0 16 = 0#16), (by decide : (0#256).extractLsb' 0 16 = 0#16),
    (by decide : (0#256).extractLsb' 0 16 = 0#16),
    ⟨by decide, by decide, by decide, by decide, by decide, by decide, by decide⟩, by decide, by decide, by decide, by decide,
    by decide, by decide, by decide⟩
  iou := ⟨by decide, by decide, fun k => by
    simp only [base, pkg, Package.atReset, IoUnit.cleared, Vector.get_replicate]; decide⟩
  tap := ⟨by decide, fun _ => rfl⟩
  wbuf := ⟨Nat.zero_le _, fun w h => nomatch h⟩
  view := rfl
  held := by decide
  reset := by decide
  due := by decide
  extInta := by decide

theorem one_inv : (one base).Inv where
  packages := by
    intro p k h
    cases p with
    | zero => cases h; exact base_inv
    | succ n => cases h

theorem witness_StepKeepsInvariant :
    { one base with input := [.event (.timerTick 0)] }.Inv ∧
    step { one base with input := [.event (.timerTick 0)] } = .next (one base) := ⟨⟨one_inv.packages⟩, rfl⟩

/-- One command of unit 0 waits. -/
def waiting : State :=
  { one (pkg 0 fun u => { u with icrLow := 0x1051#32 }) with
    icc := ⟨[msg .fixed 0x51 2#32 .none], none⟩, input := [.event (.arbitrate 0)] }

theorem witness_StepKeepsDeliveryState :
    waiting.BusInv ∧ step waiting = .next { waiting with icc := ⟨[], some (msg .fixed 0x51 2#32 .none)⟩, input := [] } := by
  refine ⟨⟨?_, ?_⟩, rfl⟩
  · intro p k h
    cases p with
    | zero => cases h; exact ⟨fun _ => ⟨_, .head _, rfl⟩, fun _ => by decide⟩
    | succ n => cases h
  · intro p; exact List.length_filter_le _ _

theorem witness_LocalRegisterReads : BusReady State.reset 3 (Package.atReset true 3#8) ∧ (Package.atReset true 3#8).cpu.wbuf = [] := reset_ready

theorem witness_LocalReadBySelector : BusReady (one base) 0 base ∧ base.cpu.wbuf = [] := base_ready
theorem witness_LocalRegisterWrites : BusReady State.reset 3 (Package.atReset true 3#8) ∧ (Package.atReset true 3#8).cpu.wbuf = [] := reset_ready
theorem witness_VectorTableWrites : BusReady (one base) 0 base ∧ base.cpu.wbuf = [] := base_ready

/-- A unit that serves the vectors listed. -/
def serving (l : List Nat) : Package := pkg 0 fun u => { u with isr := vectors l }

/-- Unit 0 as after reset, not enabled. -/
def disabledBase : Package := Package.atReset true 0#8

theorem witness_DispensingWrites :
    (BusReady (one (serving [0x10, 0xFF])) 0 (serving [0x10, 0xFF]) ∧ (serving [0x10, 0xFF]).cpu.wbuf = [] ∧
      IsHighest (serving [0x10, 0xFF]).lu.isr 0xFF#8) ∧
    (BusReady (one (serving [0x10])) 0 (serving [0x10]) ∧ (serving [0x10]).cpu.wbuf = [] ∧
      IsHighest (serving [0x10]).lu.isr 0x10#8) ∧
    (BusReady (one base) 0 base ∧ base.cpu.wbuf = [] ∧ base.lu.isr = 0#256 ∧ base.lu.svr.getLsbD 8 = true) ∧
    (BusReady (one disabledBase) 0 disabledBase ∧ disabledBase.cpu.wbuf = [] ∧ disabledBase.lu.svr.getLsbD 8 = false) ∧
    (0x100#32).getLsbD 8 = true ∧ (0xFFFFFEFF#32).getLsbD 8 = false :=
  ⟨⟨ready _ (by decide +kernel), rfl, by decide +kernel, by decide +kernel⟩,
    ⟨ready _ (by decide +kernel), rfl, by decide +kernel, by decide +kernel⟩, ⟨base_ready.1, rfl, rfl, rfl⟩,
    ⟨ready _ (by decide +kernel), rfl, rfl⟩, rfl, rfl⟩

/-- With room for two more writes, as the indirect rows need it, the clause speaks of platforms whose parameter gives that room. -/
theorem witness_PostedWrite :
    ReachesPage (one base) 0 base (one base).platform.lu ∧ ReachesPage (one duePkg) 0 duePkg (one duePkg).platform.lu ∧
    (one base).platform.lu.space = .memory ∧ 0 < (one base).platform.ious.length ∧ IoBusReady (one base) 0 0 base ∧ (ioLocation (one base).platform 0).space = .memory ∧
    (Config.wbufDepth = 2 → base.cpu.wbuf.length + 1 < Config.wbufDepth) :=
  ⟨base_reaches, due_reaches, rfl, by decide +kernel, base_reaches, rfl, fun h => by rw [h]; decide⟩

/-- A processor with the writes listed in its buffer. -/
def buffered (l : List (Word × Word)) : Package := { base with cpu := { base.cpu with wbuf := l } }

/-- A processor that may acknowledge, with one write in its buffer. -/
def askingBuffered : Package :=
  { requesting with cpu := { requesting.cpu with wbuf := [(luReg 0b001000#6, 0x40#32)] } }

theorem requesting_inv : requesting.lu.Inv :=
  ⟨by unfold LowVectorsClear; decide +kernel, by unfold LowVectorsClear; decide +kernel,
    by unfold LowVectorsClear; decide +kernel,
    ⟨by decide, by decide, by decide, by decide, by decide, by decide, by decide⟩, by decide, by decide, by decide, by decide,
    by decide, by decide, by decide⟩

/-- The clause about the acknowledge speaks of processors whose parameter `INTA_FLUSHES_WBUF` is set. -/
theorem witness_AccessFlushesBuffer :
    (ReachesPage (one (buffered [(luReg 0b001000#6, 0x40#32), (luReg 0b001101#6, 1#32)])) 0
        (buffered [(luReg 0b001000#6, 0x40#32), (luReg 0b001101#6, 1#32)]) (one base).platform.lu ∧
      IoBusReady (one (buffered [(luReg 0b001000#6, 0x40#32), (luReg 0b001101#6, 1#32)])) 0 3
        (buffered [(luReg 0b001000#6, 0x40#32), (luReg 0b001101#6, 1#32)]) ∧
      (buffered [(luReg 0b001000#6, 0x40#32), (luReg 0b001101#6, 1#32)]).cpu.wbuf =
        (luReg 0b001000#6, 0x40#32) :: [(luReg 0b001101#6, 1#32)] ∧
      (∀ v : Word, Access.read ≠ .write v true) ∧ ∀ v : Word, wr 0#32 ≠ .write v true) ∧
    (BusReady (one askingBuffered) 0 askingBuffered ∧ askingBuffered.lu.Inv ∧ cpuInt askingBuffered = true ∧
      askingBuffered.cpu.intrEnabled = true) ∧
    (∃ t k', BusReady (one (buffered [(luReg 0b001000#6, 0x40#32)])) 0 (buffered [(luReg 0b001000#6, 0x40#32)]) ∧
      exec (localInstr 0b001101#6 0 .read) (one (buffered [(luReg 0b001000#6, 0x40#32)])) = .next t ∧
      t.packages[0]? = some k') ∧
    (BusReady (one (buffered [(luReg 0b001000#6, 0xFFFFFFFF#32)])) 0 (buffered [(luReg 0b001000#6, 0xFFFFFFFF#32)]) ∧
      (one (buffered [(luReg 0b001000#6, 0xFFFFFFFF#32)])).platform.lu.space = .memory) :=
  ⟨⟨reaches _ (by decide +kernel), reaches _ (by decide +kernel), rfl, fun _ => by simp, fun _ => by simp [wr]⟩,
    ⟨ready _ (by decide +kernel), requesting_inv, by decide +kernel, rfl⟩,
    ⟨_, _, ready _ (by decide +kernel), rfl, rfl⟩, ready _ (by decide +kernel), rfl⟩

/-- The address of a register of I/O unit `n`. -/
def ioReg (n : Nat) (sel : BitVec 6) : Word := registerAddress (ioLocation Platform.recommended n) sel

theorem witness_DrainsOldestFirst :
    (∀ x ∈ [luReg 0b110001#6, ioReg 3 0b000001#6],
      (one (buffered [(x, 1#32), (luReg 0b001101#6, 2#32)])).packages[0]? =
        some (buffered [(x, 1#32), (luReg 0b001101#6, 2#32)]) ∧
      (buffered [(x, 1#32), (luReg 0b001101#6, 2#32)]).hasCpu = true ∧
      (buffered [(x, 1#32), (luReg 0b001101#6, 2#32)]).needsReset = false ∧
      cpuHeld (buffered [(x, 1#32), (luReg 0b001101#6, 2#32)]) = false ∧
      unitHeld (buffered [(x, 1#32), (luReg 0b001101#6, 2#32)]) = false) ∧
    (∀ x ∈ [luReg 0b110001#6, ioReg 3 0b000001#6],
      (one { buffered [(x, 1#32)] with needsReset := true }).packages[0]? = some { buffered [(x, 1#32)] with needsReset := true } ∧
      cpuHeld { buffered [(x, 1#32)] with needsReset := true } = false) ∧
    (one base).platform.lu.space = .memory ∧ ((one base).platform.lu :: (one base).platform.ious).Nodup ∧
    3 < (one base).platform.ious.length ∧ (ioLocation (one base).platform 3).space = .memory :=
  ⟨fun _ _ =>
    ⟨rfl, rfl, rfl, (by decide +kernel : cpuHeld base = false), (by decide +kernel : unitHeld base = false)⟩,
    fun _ _ => ⟨rfl, (by decide +kernel : cpuHeld base = false)⟩, rfl, by decide +kernel, by decide +kernel, rfl⟩

/-- Unit 0 held by a Reset message, and a processor whose page is cached. -/
def heldPkg : Package := { base with lu := softwareResetLocal base.lu }
def cachedPkg : Package := { base with cpu := { base.cpu with pageUncached := false } }

theorem witness_ProcessorGate :
    ((one heldPkg).packages[0]? = some heldPkg ∧ heldPkg.hasCpu = true ∧ cpuHeld heldPkg = true) ∧
    ((one cachedPkg).packages[0]? = some cachedPkg ∧ cachedPkg.hasCpu = true ∧ cpuHeld cachedPkg = false ∧ cachedPkg.cpu.pageUncached = false ∧ (one cachedPkg).platform.lu.space = .memory ∧
      0 < (one cachedPkg).platform.ious.length ∧ (ioLocation (one cachedPkg).platform 0).space = .memory) ∧
    ((one base).packages[0]? = some base ∧ base.hasCpu = true ∧ base.cpu.intrEnabled = false ∧
      cpuInt base = false) ∧
    ((one duePkg).packages[0]? = some duePkg ∧ duePkg.hasCpu = true ∧ duePkg.cpu.intrEnabled = false) :=
  ⟨⟨rfl, rfl, by decide +kernel⟩, ⟨rfl, rfl, by decide +kernel, rfl, rfl, by decide +kernel, rfl⟩,
    ⟨rfl, rfl, rfl, by decide +kernel⟩, rfl, rfl, rfl⟩

/-! Units for the clauses about dispensing. -/

/-- 0x10 pending at task priority 0: the lowest vector that passes (VEC-LU-4). -/
def lowestPasses : LocalUnit := (pkg 0 fun u => { u with irr := vectors [0x10] }).lu
/-- 0xFF pending at task priority 15: masked (VEC-LU-8). -/
def highestMasked : LocalUnit := (pkg 0 fun u => { u with irr := vectors [0xFF], tpr := 0xF0#32 }).lu

theorem lowestPasses_may : MayDispense lowestPasses 0x10#8 :=
  ⟨⟨by decide +kernel, by decide +kernel⟩, by decide +kernel, by decide, by decide +kernel⟩

theorem highestMasked_not : ¬∃ v, MayDispense highestMasked v := by
  have h : ∀ v : Byte, hasVector highestMasked.irr v = true → ¬15 < v.toNat / 16 := by decide +kernel
  exact fun ⟨v, hv⟩ => h v hv.1.1 hv.2.1

theorem witness_DispenseDecides :
    disabledBase.lu.svr.getLsbD 8 = false ∧
    (requesting.lu.svr.getLsbD 8 = true ∧ requesting.lu.commit ≠ .none) ∧
    (lowestPasses.svr.getLsbD 8 = true ∧ lowestPasses.commit = .none ∧ ∃ v, MayDispense lowestPasses v) ∧
    (highestMasked.svr.getLsbD 8 = true ∧ highestMasked.commit = .none ∧ (¬∃ v, MayDispense highestMasked v) ∧
      highestMasked.extIntPending = false) ∧
    ({ highestMasked with extIntPending := true }.svr.getLsbD 8 = true ∧
      { highestMasked with extIntPending := true }.commit = .none ∧
      (¬∃ v, MayDispense { highestMasked with extIntPending := true } v) ∧
      { highestMasked with extIntPending := true }.extIntPending = true) :=
  ⟨rfl, ⟨rfl, by decide⟩, ⟨rfl, rfl, _, lowestPasses_may⟩, ⟨rfl, rfl, highestMasked_not, rfl⟩, rfl, rfl, highestMasked_not, rfl⟩

theorem witness_AcceptFixedEffect : (0x0F#8).toNat < 16 ∧ 16 ≤ (0x10#8).toNat := by decide

/-- A package whose unit is `u`, with its processor ready to take an interrupt. -/
def asking (u : LocalUnit) : Package := { base with lu := u, cpu := { base.cpu with intrEnabled := true } }

/-- Unit states with a request: for 0x10; for a vector that has become masked; for an external interrupt. -/
def forLowest : LocalUnit := { lowestPasses with commit := .internal, pint := .high }
def forMasked : LocalUnit := { highestMasked with commit := .internal, pint := .high }
def forExternal : LocalUnit :=
  { highestMasked with commit := .external, pint := .high, extInta := true, extIntPending := true }

theorem witness_InternalAcknowledge :
    (BusReady (one (asking forLowest)) 0 (asking forLowest) ∧ (asking forLowest).cpu.wbuf = [] ∧
      cpuInt (asking forLowest) = true ∧ (asking forLowest).cpu.intrEnabled = true ∧ forLowest.commit = .internal ∧
      MayDispense forLowest 0x10#8) ∧
    (BusReady (one (asking forMasked)) 0 (asking forMasked) ∧ (asking forMasked).cpu.wbuf = [] ∧
      cpuInt (asking forMasked) = true ∧ (asking forMasked).cpu.intrEnabled = true ∧ forMasked.commit = .internal ∧
      ¬∃ v, MayDispense forMasked v) :=
  ⟨⟨ready _ (by decide +kernel), rfl, by decide +kernel, rfl, rfl, lowestPasses_may⟩,
    ready _ (by decide +kernel), rfl, by decide +kernel, rfl, rfl, highestMasked_not⟩

theorem witness_ExternalAcknowledge :
    BusReady (one (asking forExternal)) 0 (asking forExternal) ∧
    ((asking forExternal).cpu.wbuf = [] ∨ Config.intaFlushesWbuf = false) ∧
    cpuInt (asking forExternal) = true ∧ (asking forExternal).cpu.intrEnabled = true ∧ forExternal.commit = .external :=
  ⟨ready _ (by decide +kernel), Or.inl rfl, by decide +kernel, rfl, rfl⟩

/-- Operand fields of a command: shorthand, trigger, level, logical; vector 0xFF. -/
def fields (sh : BitVec 2) (t l d : Bool) : CommandFields := ⟨sh, 3, t, l, true, d, 0xFF⟩

theorem witness_CommandRowsSend :
    BusReady (one base) 0 base ∧ base.cpu.wbuf = [] ∧ base.lu.icrLow.getLsbD 12 = false ∧
    (fields 3 true true true).shorthand ≠ 0b01#2 ∧ (fields 3 true true true).triggerLevel = true ∧
    ((fields 3 true true true).level = true → (fields 3 true true true).shorthand ≠ 0b10#2) ∧
    (fields 0 false true false).shorthand ≠ 0b01#2 ∧ (fields 0 false true false).triggerLevel = false ∧
    (fields 0 false true false).shorthand = 0b00#2 ∧ (fields 0 false true false).logical = false ∧
    base.lu.icrHigh.extractLsb' 24 8 ≠ 0xFF#8 := ⟨base_ready.1, rfl, by decide⟩

theorem witness_IcrLowWriteIsCommand :
    BusReady (one base) 0 base ∧ base.cpu.wbuf = [] ∧ base.lu.icrLow.getLsbD 12 = false := ⟨base_ready.1, rfl, rfl⟩

/-- A Self Remote Read of the register that `v` selects. -/
def selfRead (v : Byte) : CommandFields := ⟨1, 0, false, true, false, false, v⟩

theorem witness_SelfCommands :
    BusReady (one base) 0 base ∧ base.cpu.wbuf = [] ∧ base.lu.icrLow.getLsbD 12 = false ∧
    (fields 1 true false true).shorthand = 0b01#2 ∧ (fields 1 true false true).triggerLevel = true ∧
    (fields 1 true false true).level = false ∧ (selfRead 0x08).triggerLevel = false ∧ (selfRead 0x08).logical = false ∧
    localRead ((selfRead 0x08).vector.extractLsb' 0 6) { base.lu with icrLow := rowWord 0b011#3 (selfRead 0x08) false 0 } =
      some 0#32 ∧
    localRead ((selfRead 0x0B).vector.extractLsb' 0 6) { base.lu with icrLow := rowWord 0b011#3 (selfRead 0x0B) false 0 } =
      none := ⟨base_ready.1, rfl, rfl, rfl, rfl, rfl, rfl, rfl, rfl, rfl⟩

/-- Unit 0 busy, and unit 0 with the broadcast destination. -/
def busyPkg : Package := pkg 0 fun u => { u with icrLow := 0x1051#32 }
def broadcastPkg : Package := pkg 0 fun u => { u with icrHigh := 0xFF000000#32 }

theorem witness_CommandRowsStop :
    (BusReady (one busyPkg) 0 busyPkg ∧ busyPkg.cpu.wbuf = [] ∧ busyPkg.lu.icrLow.getLsbD 12 = true) ∧
    (BusReady (one broadcastPkg) 0 broadcastPkg ∧ broadcastPkg.cpu.wbuf = [] ∧
      broadcastPkg.lu.icrLow.getLsbD 12 = false ∧ broadcastPkg.lu.icrHigh.extractLsb' 24 8 = 0xFF#8) ∧
    (fields 0 false false false).triggerLevel = false ∧ (fields 0 false false false).level = false ∧
    (fields 3 false true false).triggerLevel = false ∧ (fields 3 false true false).level = true ∧
    (fields 3 false true false).shorthand = 0b11#2 ∧
    (fields 0 true false false).triggerLevel = true ∧ (fields 0 true false false).shorthand = 0b00#2 ∧
    (fields 3 false false false).shorthand ≠ 0b00#2 ∧ (fields 0 false false true).logical = true ∧
    (fields 2 false false false).shorthand.getLsbD 1 = true ∧ (fields 1 true true false).level = true ∧
    (fields 1 true true false).shorthand = 0b01#2 ∧ (fields 2 true true false).shorthand = 0b10#2 :=
  ⟨⟨ready _ (by decide +kernel), rfl, rfl⟩, ⟨ready _ (by decide +kernel), rfl, rfl, rfl⟩, by decide⟩

/-- Two messages wait, and the bus carries `c`. -/
def twoWaiting (c : Option Message) : State :=
  { waiting with icc := ⟨[msg .nmi 0 1#32 .none, msg .fixed 0x51 2#32 .none], c⟩ }

/-- Three packages with ID 0 that RESET does not hold; the bus carries a message of unit 0, and those of `l` wait. -/
def doubled (k : Package) (l : List Message) : State :=
  { three base k k with icc := ⟨l, some (msg .fixed 0x51 2#32 .none)⟩ }

/-- The duplicates: a second enabled unit, a disabled one with a message waiting, an I/O unit with an unmasked entry, one with a
message waiting, and two units beside the sender. -/
theorem witness_Arbitration_duplicates :
    ((doubled base []).packages[1]? = some base ∧ base.hasCpu = true ∧ base.resetPin = false ∧
      base.lu.svr.getLsbD 8 = true ∧ base.lu.id.extractLsb' 24 8 = (msg .fixed 0x51 2#32 .none).srcId) ∧
    ((doubled disabledBase [{ msg .nmi 0 1#32 .none with source := .local 1 }]).packages[1]? = some disabledBase ∧
      disabledBase.lu.id.extractLsb' 24 8 = (msg .fixed 0x51 2#32 .none).srcId) ∧
    ((doubled (ioPkg fun u => { u with rt := u.rt.set 15 0x51#64 }) []).packages[1]? =
        some (ioPkg fun u => { u with rt := u.rt.set 15 0x51#64 }) ∧
      ((ioPkg fun u => { u with rt := u.rt.set 15 0x51#64 }).iou.rt.get 15).getLsbD 16 = false ∧
      (ioPkg fun u => { u with rt := u.rt.set 15 0x51#64 }).iou.id.extractLsb' 24 8 = 0#8) ∧
    (∃ x ∈ (doubled base [{ msg .nmi 0 1#32 .none with source := .io 1 3 }]).icc.queue, ∃ j, x.source = .io 1 j) ∧
    ((doubled base []).icc.carried = some (msg .fixed 0x51 2#32 .none) ∧ (doubled base []).packages[2]? = some base ∧
      (msg .fixed 0x51 2#32 .none).source ≠ .local 1 ∧ (msg .fixed 0x51 2#32 .none).source ≠ .local 2) :=
  ⟨⟨rfl, rfl, rfl, rfl, rfl⟩, ⟨rfl, rfl⟩, ⟨rfl, by decide +kernel, rfl⟩, ⟨_, .head _, 3, rfl⟩, rfl, rfl, by decide, by decide⟩

theorem witness_Arbitration :
    (∀ c, (twoWaiting c).icc.queue = [msg .nmi 0 1#32 .none] ++ msg .fixed 0x51 2#32 .none :: []) ∧
    (twoWaiting none).icc.carried = none ∧
    (∀ (q : Nat) (k : Package), (twoWaiting none).packages[q]? = some k →
      (msg .fixed 0x51 2#32 .none).source = .local q ∨ (∃ j, (msg .fixed 0x51 2#32 .none).source = .io q j) →
      k.needsReset = false) ∧
    (twoWaiting (some (msg .nmi 0 1#32 .none))).icc.carried = some (msg .nmi 0 1#32 .none) := by
  refine ⟨fun _ => rfl, rfl, ?_, rfl⟩
  intro q k h _
  cases q with
  | zero => cases h; rfl
  | succ n => cases h

theorem carrying_usable (m : Message) : Trusted (carrying m) m := by
  intro q k h _
  match q with
  | 0 => cases h; rfl
  | 1 => cases h; rfl
  | 2 => cases h; rfl
  | q + 3 => cases h

theorem carrying_deliverable (mode : DeliveryMode) (v : Byte) (d : Word) (sh : Shorthand) :
    Deliverable (carrying (msg mode v d sh)) (msg mode v d sh) :=
  ⟨rfl, (by decide +kernel : (idsInUse (msg .fixed 0 0 .none) (carrying (msg .fixed 0 0 .none))).Nodup),
    carrying_usable _, Or.inl rfl⟩

/-- A level message of pin 3 of the I/O unit of package 2, whose ID is 9. -/
def pinMsg (mode : DeliveryMode) (level : Bool) : Message :=
  { msg mode 0x61 2#32 .none with source := .io 2 3, srcId := 9#8, trigger := .level, level := level }

theorem pinMsg_deliverable (mode : DeliveryMode) (level : Bool) :
    Deliverable (carrying (pinMsg mode level)) (pinMsg mode level) :=
  ⟨rfl, (by decide +kernel : (idsInUse (pinMsg .fixed true) (carrying (pinMsg .fixed true))).Nodup),
    carrying_usable _, Or.inl rfl⟩

theorem witness_DeliversToEveryTarget :
    (∀ mode ∈ [DeliveryMode.fixed, .extInt, .nmi],
      Deliverable (carrying (msg mode 0x10 2#32 .none)) (msg mode 0x10 2#32 .none) ∧
      ((msg mode 0x10 2#32 .none).mode = .fixed ∨ (msg mode 0x10 2#32 .none).mode = .extInt ∨
        (msg mode 0x10 2#32 .none).mode = .nmi)) ∧
    (Deliverable (carrying (pinMsg .lowestPriority false)) (pinMsg .lowestPriority false) ∧
      (pinMsg .lowestPriority false).trigger = .level ∧ (pinMsg .lowestPriority false).level = false) ∧
    targetAt (carrying (msg .fixed 0x10 2#32 .none)) (msg .fixed 0x10 2#32 .none) 2 = true ∧
    targetAt (carrying (pinMsg .fixed true)) (pinMsg .fixed true) 2 = true :=
  ⟨fun mode _ => ⟨carrying_deliverable mode _ _ _, by
      rename_i h; simp only [List.mem_cons, List.not_mem_nil, or_false] at h; exact h⟩,
    ⟨pinMsg_deliverable _ _, rfl, rfl⟩, by decide +kernel, by decide +kernel⟩

/-- A message with a Logical destination. -/
def logicalMsg : Message := { msg .fixed 0x51 0x06000000#32 .none with destMode := .logical }

/-- Three packages whose units are not enabled; the bus carries `m`. -/
def nobody (m : Message) : State :=
  { three (Package.atReset true 0#8) (Package.atReset true 1#8) (Package.atReset true 2#8) with icc := ⟨[], some m⟩ }

/-- The hypotheses of all clauses and, where nobody can receive, the flat case; which formats are flat is a parameter. -/
theorem witness_LogicalDelivery :
    ((carrying logicalMsg).icc.carried = some logicalMsg ∧ (idsInUse logicalMsg (carrying logicalMsg)).Nodup ∧
      Trusted (carrying logicalMsg) logicalMsg) ∧
    ((nobody logicalMsg).icc.carried = some logicalMsg ∧ (idsInUse logicalMsg (nobody logicalMsg)).Nodup ∧
      receiversFlat (nobody logicalMsg) logicalMsg = true) ∧
    logicalMsg.mode = .fixed ∧ logicalMsg.destMode = .logical ∧ logicalMsg.shorthand = .none :=
  ⟨⟨rfl, by decide +kernel, carrying_usable _⟩, ⟨rfl, by decide +kernel, rfl⟩, rfl, rfl, rfl⟩

theorem witness_LowestPriorityWinners :
    Deliverable (carrying (msg .lowestPriority 0x61 0xFF#32 .none)) (msg .lowestPriority 0x61 0xFF#32 .none) ∧
    (msg .lowestPriority 0x61 0xFF#32 .none).mode = .lowestPriority ∧
    (msg .lowestPriority 0x61 0xFF#32 .none).trigger = .edge ∧
    targetAt (carrying (msg .lowestPriority 0x61 0xFF#32 .none)) (msg .lowestPriority 0x61 0xFF#32 .none) 2 = true :=
  ⟨carrying_deliverable _ _ _ _, rfl, rfl, by decide +kernel⟩

theorem witness_ResetMessageAsserts :
    Deliverable (carrying (msg .reset 0 2#32 .none)) (msg .reset 0 2#32 .none) ∧
    (msg .reset 0 2#32 .none).mode = .reset ∧ (msg .reset 0 2#32 .none).level = true :=
  ⟨carrying_deliverable _ _ _ _, rfl, rfl⟩

/-- The deassert message. -/
def deassert : Message := { msg .reset 0 0#32 .allInclSelf with trigger := .level, level := false }

/-- Unit 0, enabled, and unit 1, which a Reset message holds. -/
def holding : State :=
  { one base with
    packages := [base, { base with lu := softwareResetLocal (pkg 1 id).lu }]
    icc := ⟨[], some deassert⟩ }

theorem witness_ResetMessageDeasserts :
    (Deliverable (carrying deassert) deassert ∧ deassert.mode = .reset ∧ deassert.level = false) ∧
    (Deliverable holding deassert ∧ targetAt holding deassert 1 = true ∧
      (holding.packages[1]?).map (fun k => k.lu.prst) = some true) := by
  refine ⟨⟨⟨rfl, by decide +kernel, carrying_usable _, Or.inl rfl⟩, rfl, rfl⟩,
    ⟨rfl, by decide +kernel, ?_, Or.inl rfl⟩, by decide +kernel, by decide +kernel⟩
  intro q k h _
  match q with
  | 0 => cases h; rfl
  | 1 => cases h; rfl
  | q + 2 => cases h

/-- Two enabled units, and unit 2, which is not; the bus carries `m`. -/
def partly (m : Message) : State :=
  { three (pkg 0 fun u => { u with icrLow := 0x11308#32 }) (pkg 1 id) (Package.atReset true 2#8) with icc := ⟨[], some m⟩ }

theorem partly_deliverable (v : Byte) (d : Word) :
    Deliverable (partly (msg .remoteRead v d .none)) (msg .remoteRead v d .none) := by
  refine ⟨rfl, (by decide +kernel : (idsInUse (msg .fixed 0 0 .none) (partly (msg .fixed 0 0 .none))).Nodup), ?_, Or.inl rfl⟩
  intro q k h _
  match q with
  | 0 => cases h; rfl
  | 1 => cases h; rfl
  | 2 => cases h; rfl
  | q + 3 => cases h

/-- A unit with the register, one without, no unit of the ID, and a unit that is not enabled. -/
theorem witness_RemoteReadReturns :
    (∀ v ∈ [0x08#8, 0x0B#8],
      Deliverable (partly (msg .remoteRead v 1#32 .none)) (msg .remoteRead v 1#32 .none) ∧
      (partly (msg .remoteRead v 1#32 .none)).packages[0]? = some (pkg 0 fun u => { u with icrLow := 0x11308#32 }) ∧
      (partly (msg .remoteRead v 1#32 .none)).packages[1]? = some (pkg 1 id) ∧
      isTarget (msg .remoteRead v 1#32 .none) 1 (pkg 1 id) = true) ∧
    (∀ q, targetAt (partly (msg .remoteRead 0x08 1#32 .none)) (msg .remoteRead 0x08 1#32 .none) q = true → q = 1) ∧
    localRead ((0x08#8).extractLsb' 0 6) (pkg 1 id).lu = some 0#32 ∧
    localRead ((0x0B#8).extractLsb' 0 6) (pkg 1 id).lu = none ∧
    (Deliverable (partly (msg .remoteRead 0x08 5#32 .none)) (msg .remoteRead 0x08 5#32 .none) ∧
      ∀ (q : Nat) (kq : Package), (partly (msg .remoteRead 0x08 5#32 .none)).packages[q]? = some kq → kq.hasCpu = true →
        isNamed (msg .remoteRead 0x08 5#32 .none) q kq = false) ∧
    (Deliverable (partly (msg .remoteRead 0x08 2#32 .none)) (msg .remoteRead 0x08 2#32 .none) ∧
      (partly (msg .remoteRead 0x08 2#32 .none)).packages[2]? = some (Package.atReset true 2#8) ∧
      isNamed (msg .remoteRead 0x08 2#32 .none) 2 (Package.atReset true 2#8) = true ∧
      ∀ q, targetAt (partly (msg .remoteRead 0x08 2#32 .none)) (msg .remoteRead 0x08 2#32 .none) q = false) := by
  refine ⟨fun v hv => ⟨partly_deliverable _ _, rfl, rfl, ?_⟩, ?_, rfl, rfl, ⟨partly_deliverable _ _, ?_⟩,
    partly_deliverable _ _, rfl, by decide +kernel, ?_⟩
  · simp only [List.mem_cons, List.not_mem_nil, or_false] at hv
    rcases hv with rfl | rfl <;> decide +kernel
  · intro q h
    match q with
    | 0 => exact absurd h (by decide +kernel)
    | 1 => rfl
    | 2 => exact absurd h (by decide +kernel)
    | q + 3 => exact absurd h Bool.false_ne_true
  · intro q k h _
    match q with
    | 0 => cases h; decide +kernel
    | 1 => cases h; decide +kernel
    | 2 => cases h; decide +kernel
    | q + 3 => cases h
  · intro q
    match q with
    | 0 => decide +kernel
    | 1 => decide +kernel
    | 2 => decide +kernel
    | q + 3 => rfl

theorem io_ready (k : Package) (h : k.needsReset = false ∧ k.resetPin = false) : IoReady (one k) 0 k :=
  ⟨rfl, Nat.zero_lt_succ _, h.1, h.2⟩

/-- Package 0 must be reset, package 1 need not. -/
def dueState : State := { one base with packages := [duePkg, pkg 1 id] }

/-- U16: a package that must be reset refuses its own registers, and its processor goes on elsewhere: it reads SELECT of another
package's I/O unit, a buffered write drains there, and with interrupts masked it starts no acknowledge. -/
theorem test_due_elsewhere :
    refusal? (exec (.luTpr 0 .read) dueState) = some .needsHardwareReset ∧
    refusal? (exec (.ioSelect 0 0 .read) dueState) = some .needsHardwareReset ∧
    (package? (exec (.ioSelect 0 1 .read) { dueState with packages := [duePkg, { pkg 1 id with iou := { (pkg 1 id).iou with
      select := 0x12#32 } }] }) 0).map (fun k => k.cpu.data) = some 0x12#32 ∧
    (package? (onEvent { dueState with packages := [{ duePkg with cpu := { duePkg.cpu with
      wbuf := [(registerAddress (ioLocation Platform.recommended 1) 0b000000#6, 0x11#32)] } }, pkg 1 id] } (.drain 0) []) 1).map
      (fun k => k.iou.select) = some 0x11#32 ∧
    (next? (onEvent dueState (.intaFirst 0) [])).isSome = true := by decide +kernel

theorem witness_IoDirectRegisters :
    (IoBusReady State.reset 3 0 (Package.atReset true 3#8) ∧ (Package.atReset true 3#8).cpu.wbuf = [] ∧
      IoReady State.reset 0 (Package.atReset true 0#8)) ∧
    (IoBusReady dueState 0 1 duePkg ∧ duePkg.cpu.wbuf = [] ∧ IoReady dueState 1 (pkg 1 id)) :=
  ⟨⟨reset_reaches, rfl, ⟨rfl, by decide +kernel, rfl, rfl⟩⟩, ⟨rfl, rfl, by decide +kernel, fun _ => rfl⟩, rfl,
    ⟨rfl, by decide +kernel, rfl, rfl⟩⟩

theorem witness_IoWindow :
    (IoBusReady (one base) 0 0 base ∧ base.cpu.wbuf = [] ∧ IoReady (one base) 0 base ∧
      base.iou.select.extractLsb' 0 8 = 0x00#8) ∧
    (IoBusReady (one (ioPkg fun u => { u with select := 0x2F#32 })) 0 0 (ioPkg fun u => { u with select := 0x2F#32 }) ∧
      IoReady (one (ioPkg fun u => { u with select := 0x2F#32 })) 0 (ioPkg fun u => { u with select := 0x2F#32 }) ∧
      (ioPkg fun u => { u with select := 0x2F#32 }).iou.select.extractLsb' 0 8 =
        BitVec.ofNat 8 (0x11 + 2 * (15 : Fin 16).val)) ∧
    (∀ i : Byte, IoBusReady (one (ioPkg fun u => { u with select := i.setWidth 32 })) 0 0
        (ioPkg fun u => { u with select := i.setWidth 32 }) ∧
      IoReady (one (ioPkg fun u => { u with select := i.setWidth 32 })) 0 (ioPkg fun u => { u with select := i.setWidth 32 }) ∧
      (ioPkg fun u => { u with select := i.setWidth 32 }).iou.select = i.setWidth 32) :=
  ⟨⟨base_reaches, rfl, io_ready _ ⟨rfl, rfl⟩, rfl⟩, ⟨reaches _ (by decide +kernel), io_ready _ ⟨rfl, rfl⟩, rfl⟩,
    fun _ => ⟨reaches _ ⟨rfl, (by decide +kernel : cpuHeld base = false), rfl⟩,
      io_ready _ ⟨rfl, rfl⟩, rfl⟩⟩

theorem witness_IndirectReads :
    IoBusReady (one base) 0 0 base ∧ base.cpu.wbuf = [] ∧ IoReady (one base) 0 base ∧ indexReserved 0x02#8 ∧
    indexReserved 0x0F#8 ∧ indexReserved 0x30#8 ∧ indexReserved 0xFF#8 ∧ 2 ≤ (0b000010#6).toNat ∧
    2 ≤ (0b111111#6).toNat :=
  ⟨base_reaches, rfl, io_ready _ ⟨rfl, rfl⟩, by decide, by decide, by decide, by decide, by decide, by decide⟩

theorem witness_IndirectWrites :
    IoBusReady State.reset 3 0 (Package.atReset true 3#8) ∧ (Package.atReset true 3#8).cpu.wbuf = [] ∧
    IoReady State.reset 0 (Package.atReset true 0#8) ∧ indexReserved 0x30#8 ∧ 2 ≤ (0b000010#6).toNat ∧
    (0x10000#32).getLsbD 16 = true ∧ (0x7FFF#32).getLsbD 15 = false :=
  ⟨reset_reaches, rfl, ⟨rfl, by decide +kernel, rfl, rfl⟩, by decide, by decide, rfl, rfl⟩

/-- A package whose pins of the I/O unit are all high. -/
def highPkg : Package := ioPkg fun u => { u with pins := Vector.replicate 16 ⟨true, .waiting⟩ }

theorem witness_EntryWriteSends :
    (IoBusReady (one base) 0 0 base ∧ base.cpu.wbuf = [] ∧ IoReady (one base) 0 base ∧
      base.iou.levelSent.get 0 = (base.iou.pins.get 0).level) ∧
    (IoBusReady (one highPkg) 0 0 highPkg ∧ highPkg.cpu.wbuf = [] ∧ IoReady (one highPkg) 0 highPkg ∧
      highPkg.iou.levelSent.get 15 = !(highPkg.iou.pins.get 15).level) ∧
    (∀ c : BitVec 3, (0x8061#32 ||| (c ++ 0#8).setWidth 32).getLsbD 16 = false ∧
      (0x8061#32 ||| (c ++ 0#8).setWidth 32).getLsbD 15 = true ∧
      (0x8061#32 ||| (c ++ 0#8).setWidth 32).extractLsb' 8 3 = c) :=
  ⟨⟨base_reaches, rfl, io_ready _ ⟨rfl, rfl⟩, by decide +kernel⟩,
    ⟨reaches _ (by decide +kernel), rfl, io_ready _ ⟨rfl, rfl⟩, by decide +kernel⟩, by decide +kernel⟩

/-- Pin 15 of the I/O unit with an edge entry of mode `c`, the detector having seen a rise; of the lower pins, pin 0 is unmasked
and has seen nothing (VEC-IOU-6), and pin 1 is unmasked and level-triggered. -/
def seenPkg (c : BitVec 3) (level : Bool) : Package :=
  ioPkg fun u =>
    { u with
      rt := ((u.rt.set 15 (0x51#64 ||| (c ++ 0#8).setWidth 64)).set 0 0x50#64).set 1 0x8060#64
      pins := u.pins.set 15 ⟨level, .seen⟩ }

/-- Pin 0 with an unmasked edge entry and a waiting detector. -/
def edgePkg : Package := ioPkg fun u => { u with rt := u.rt.set 0 0x51#64 }

theorem witness_EdgeInput :
    (IoReady (one base) 0 base ∧ (base.iou.rt.get 0).getLsbD 16 = true) ∧
    (IoReady (one edgePkg) 0 edgePkg ∧ (edgePkg.iou.rt.get 0).getLsbD 16 = false ∧
      (edgePkg.iou.rt.get 0).getLsbD 15 = false ∧ edgePkg.iou.pins.get 0 = ⟨false, .waiting⟩) ∧
    (∀ (c : BitVec 3) (b : Bool), IoReady (one (seenPkg c b)) 0 (seenPkg c b) ∧
      ((seenPkg c b).iou.rt.get 15).getLsbD 16 = false ∧ ((seenPkg c b).iou.rt.get 15).getLsbD 15 = false ∧
      ((seenPkg c b).iou.pins.get 15).edge = .seen ∧
      (∀ i : Fin 16, i < 15 → ((seenPkg c b).iou.rt.get i).getLsbD 16 = true ∨
        ((seenPkg c b).iou.rt.get i).getLsbD 15 = true ∨ ((seenPkg c b).iou.pins.get i).edge ≠ .seen) ∧
      ((seenPkg c b).iou.pins.get 15).level = b ∧ ((seenPkg c b).iou.rt.get 15).extractLsb' 8 3 = c) :=
  ⟨⟨io_ready _ ⟨rfl, rfl⟩, by decide +kernel⟩,
    ⟨io_ready _ ⟨rfl, rfl⟩, by decide +kernel, by decide +kernel, by decide +kernel⟩, fun c b =>
    ⟨io_ready _ ⟨rfl, rfl⟩, by revert c b; decide +kernel⟩⟩

/-- Pin 15 of the I/O unit with a level entry of mode `c`. -/
def levelPkg (c : BitVec 3) : Package :=
  ioPkg fun u => { u with rt := u.rt.set 15 (0x8061#64 ||| (c ++ 0#8).setWidth 64) }

theorem witness_LevelInput :
    ∀ c : BitVec 3, IoReady (one (levelPkg c)) 0 (levelPkg c) ∧ ((levelPkg c).iou.rt.get 15).getLsbD 16 = false ∧
      ((levelPkg c).iou.rt.get 15).getLsbD 15 = true ∧ ((levelPkg c).iou.rt.get 15).extractLsb' 8 3 = c ∧
      (levelPkg c).iou.levelSent.get 15 = false :=
  fun c => ⟨io_ready _ ⟨rfl, rfl⟩, by revert c; decide +kernel⟩

/-- LINTIN0 and LINTIN1 with the entry `e` and the pin and detector `x`. -/
def lintPkg (e : Word) (x : InputPin) : Package :=
  pkg 0 fun u => { u with lvtLint0 := e, lint0 := x, lvtLint1 := e, lint1 := x }

theorem lintPkg_meets (e : Word) (x : InputPin) (j : Lint) :
    (one (lintPkg e x)).packages[0]? = some (lintPkg e x) ∧ (lintPkg e x).needsReset = false ∧
    (lintPkg e x).resetPin = false ∧ (lintPkg e x).lu.entryAt j = e ∧ (lintPkg e x).lu.pinAt j = x := by
  cases j <;> exact ⟨rfl, rfl, rfl, rfl, rfl⟩

/-- Every mode has an edge entry and a level entry; with `lintPkg_meets` these meet the hypotheses at both pins. -/
theorem witness_LocalEdgeInput :
    (∀ j : Lint, (one base).packages[0]? = some base ∧ (base.lu.entryAt j).getLsbD 16 = true) ∧
    (∀ (c : BitVec 3) (x : InputPin) (j : Lint),
      (one (lintPkg (0x51#32 ||| (c ++ 0#8).setWidth 32) x)).packages[0]? =
        some (lintPkg (0x51#32 ||| (c ++ 0#8).setWidth 32) x) ∧
      (lintPkg (0x51#32 ||| (c ++ 0#8).setWidth 32) x).lu.pinAt j = x) ∧
    (∀ c : BitVec 3, (0x51#32 ||| (c ++ 0#8).setWidth 32).getLsbD 16 = false ∧
      (0x51#32 ||| (c ++ 0#8).setWidth 32).getLsbD 15 = false ∧
      (0x51#32 ||| (c ++ 0#8).setWidth 32).extractLsb' 8 3 = c) :=
  ⟨fun j => ⟨rfl, by cases j <;> decide +kernel⟩,
    fun _ _ j => ⟨(lintPkg_meets _ _ j).1, (lintPkg_meets _ _ j).2.2.2.2⟩, by decide +kernel⟩

theorem witness_LocalLevelInput :
    (∀ (c : BitVec 3) (x : InputPin) (j : Lint),
      (one (lintPkg (0x8061#32 ||| (c ++ 0#8).setWidth 32) x)).packages[0]? =
        some (lintPkg (0x8061#32 ||| (c ++ 0#8).setWidth 32) x) ∧
      (lintPkg (0x8061#32 ||| (c ++ 0#8).setWidth 32) x).lu.pinAt j = x) ∧
    (∀ c : BitVec 3, (0x8061#32 ||| (c ++ 0#8).setWidth 32).getLsbD 16 = false ∧
      (0x8061#32 ||| (c ++ 0#8).setWidth 32).getLsbD 15 = true ∧
      (0x8061#32 ||| (c ++ 0#8).setWidth 32).extractLsb' 8 3 = c) :=
  ⟨fun _ _ j => ⟨(lintPkg_meets _ _ j).1, (lintPkg_meets _ _ j).2.2.2.2⟩, by decide +kernel⟩

/-- A timer at a count, with its entry. -/
def timerPkg (e c : Word) : Package := pkg 0 fun u => { u with lvtTimer := e, timerInit := 7#32, timerCur := c }

theorem witness_TimerCounts :
    (∀ e c : Word, (one (timerPkg e c)).packages[0]? = some (timerPkg e c) ∧ (timerPkg e c).needsReset = false ∧
      (timerPkg e c).resetPin = false ∧ (timerPkg e c).lu.timerCur = c ∧ (timerPkg e c).lu.lvtTimer = e) ∧
    1 < (2#32).toNat ∧ 1 < (0xFFFFFFFF#32).toNat ∧ (0x10051#32).getLsbD 16 = true ∧
    (∀ c : BitVec 3, (0x51#32 ||| (c ++ 0#8).setWidth 32).getLsbD 16 = false ∧
      (0x51#32 ||| (c ++ 0#8).setWidth 32).extractLsb' 8 3 = c) :=
  ⟨fun _ _ => ⟨rfl, rfl, rfl, rfl, rfl⟩, by decide +kernel, by decide +kernel, rfl, by decide +kernel⟩

theorem witness_HardwareReset : (one base).packages[0]? = some base := rfl

/-- A package while RESET is asserted. -/
def resetPkg : Package := { base with lu := hardwareResetLocal 0x02#8 base.lu, resetPin := true }

theorem witness_ReleaseAndIdLatch : (one resetPkg).packages[0]? = some resetPkg ∧ resetPkg.resetPin = true ∧
    resetPkg.lu.prst = true := ⟨rfl, rfl, rfl⟩

theorem witness_ProcessorSteps :
    ((one resetPkg).packages[0]? = some resetPkg ∧ resetPkg.hasCpu = true ∧ cpuHeld resetPkg = true) ∧
    ((one base).packages[0]? = some base ∧ base.hasCpu = true ∧ cpuHeld base = false) :=
  ⟨⟨rfl, rfl, by decide +kernel⟩, rfl, rfl, by decide +kernel⟩

/-- The TAP in Pause-IR, the state farthest from Test-Logic-Reset. -/
def pausedPkg : Package := tapPkg fun t => { t with state := .pauseIr, ir := 0b1111#4 }

theorem witness_FiveEdgesReset :
    ((one pausedPkg).packages[0]? = some pausedPkg ∧ opcodeOnTheWay (one pausedPkg) pausedPkg none = some 0b0000#4 ∧
      (one base).packages[0]? = some base ∧ opcodeOnTheWay (one base) base none = none) ∧
    opcodeOnTheWay (one (tapPkg fun t => { t with state := .exit1Ir, irShift := 0b1001#4 }))
      (tapPkg fun t => { t with state := .exit1Ir, irShift := 0b1001#4 }) none = some 0b1001#4 :=
  ⟨⟨rfl, rfl, rfl, rfl⟩, rfl⟩

theorem witness_TapTouchesItselfOnly :
    ∃ t, (one pausedPkg).packages[0]? = some pausedPkg ∧
      onEvent (one pausedPkg) (.tap 0 (.rise (some true) none)) [] = .next t := ⟨_, rfl, rfl⟩

theorem witness_TapTable :
    (one pausedPkg).packages[0]? = some pausedPkg ∧ pausedPkg.tap.state = .pauseIr ∧
    (one base).packages[0]? = some base ∧ base.tap.state = .testLogicReset := ⟨rfl, rfl, rfl, rfl⟩

theorem witness_JtagRowsFromAnywhere : (one pausedPkg).packages[0]? = some pausedPkg := rfl

/-- The controller in the state `x`. -/
def tapAt (x : TapState) : Package := tapPkg fun t => { t with state := x }

/-- The three states from which a row is a whole scan. -/
theorem tapAt_meets :
    ∀ x ∈ [TapState.testLogicReset, .runTestIdle, .selectIr],
      (one (tapAt x)).packages[0]? = some (tapAt x) ∧ (tapAt x).tap.state ∈ [TapState.testLogicReset, .runTestIdle, .selectIr] :=
  fun _ h => ⟨rfl, h⟩

theorem witness_JtagRowsLoad :
    (one (tapAt .selectIr)).packages[0]? = some (tapAt .selectIr) ∧
    (tapAt .selectIr).tap.state ∈ [TapState.testLogicReset, .runTestIdle, .selectIr] := tapAt_meets _ (by decide)

theorem witness_JtagDataScans :
    (one base).packages[0]? = some base ∧ base.tap.state ∈ [TapState.testLogicReset, .runTestIdle, .selectIr] ∧
    [true] ≠ ([] : List Bool) := ⟨rfl, by decide, by decide⟩

theorem witness_SamplePreloadScan :
    (one base).packages[0]? = some base ∧ base.tap.state ∈ [TapState.testLogicReset, .runTestIdle, .selectIr] ∧
    (List.replicate 137 true).length = 137 := ⟨rfl, by decide, List.length_replicate⟩

/-- Cell 1 is an input; cell 62 (D31) is one while its control cell, as latched, does not enable it. -/
theorem witness_ExtestScan :
    (one base).packages[0]? = some base ∧ base.tap.state ∈ [TapState.testLogicReset, .runTestIdle, .selectIr] ∧
    (List.replicate 137 false).length = 137 ∧
    (scanCells[0]?).map (fun c => (c.type, sampledCell base 0 c.signal)) = some (.i, some false) ∧
    (scanCells[61]?).map (fun c => (c.type, sampledCell base 61 c.signal)) = some (.b, some false) ∧
    (∃ x ∈ outputCells, x.1 = 61 + 1 ∧
      (Config.controlEnables = true → base.tap.bsrLatch.getLsbD (x.2 - 1) ≠ Config.controlEnables)) := by
  refine ⟨rfl, by decide, List.length_replicate, by decide +kernel, by decide +kernel, ?_⟩
  have h : ∃ x ∈ outputCells, x.1 = 61 + 1 ∧ base.tap.bsrLatch.getLsbD (x.2 - 1) = false := by decide +kernel
  obtain ⟨x, hx, h1, h2⟩ := h
  exact ⟨x, hx, h1, fun e => by rw [h2, e]; decide⟩

/-- Two packages; a message of local unit 0 and one of its I/O unit wait. -/
def extestState : State :=
  { one base with
    packages := [base, pkg 1 id]
    icc := ⟨[msg .nmi 0 1#32 .none, { msg .fixed 0x51 1#32 .none with source := .io 0 3 }], none⟩ }

theorem witness_ExtestNeedsReset :
    extestState.packages[0]? = some base ∧ base.tap.state ∈ [TapState.testLogicReset, .runTestIdle, .selectIr] ∧
    (∀ v : Word, Access.read ≠ .write v true) ∧
    (base.hasCpu = true ∧ base.cpu.pageUncached = true ∧ base.cpu.wbuf = []) ∧
    0 < extestState.platform.ious.length ∧ (1 ≠ 0 ∧ IoBusReady extestState 1 0 (pkg 1 id) ∧ (pkg 1 id).cpu.wbuf = []) ∧
    extestState.icc.carried = none ∧ (extestState.icc.queue[0]?).map (fun m => m.source) = some (.local 0) ∧
    (extestState.icc.queue[1]?).map (fun m => m.source) = some (.io 0 3) :=
  ⟨rfl, by decide, fun _ => by simp, ⟨rfl, rfl, rfl⟩, by decide +kernel,
    ⟨by decide, ⟨rfl, rfl, by decide +kernel, fun _ => rfl⟩, rfl⟩, rfl, rfl, rfl⟩

theorem witness_ExtestDrivesPins :
    (tapPkg fun t => { t with ir := 0b0000#4 }).tap.ir = 0b0000#4 ∧ base.tap.ir ≠ 0b0000#4 ∧
    pinLevel base 121 .prst ≠ some .z := ⟨rfl, by decide, by decide +kernel⟩

theorem witness_ResetDueStays :
    ∃ t, (one duePkg).packages[0]? = some duePkg ∧ duePkg.needsReset = true ∧
      (∀ r : List Input, [Input.event (.lintPin 0 .lint0 true)] ≠ .event (.resetAssert 0) :: r) ∧
      step { one duePkg with input := [.event (.lintPin 0 .lint0 true)] } = .next t :=
  ⟨_, rfl, rfl, fun r => by simp, rfl⟩

theorem witness_PerpendicularCommand :
    State.reset.fdc.phase = .command ∧
    ({ State.reset with fdc := { Fdc.cleared with phase := .parameter } }).fdc.phase = .parameter ∧
    ({ State.reset with fdc := { Fdc.cleared with phase := .other } }).fdc.phase = .other ∧ (0x13#8) ≠ 0x12#8 :=
  ⟨rfl, rfl, rfl, by decide⟩

/-- Memory of a package with one byte, and a byte on its way to it. -/
def seeing : State :=
  { State.reset with unseen := [⟨1, 5#32, 7#8⟩] }

theorem witness_MemoryViews :
    (State.reset.packages[3]? = some (Package.atReset true 3#8) ∧ (Package.atReset true 3#8).hasCpu = true ∧
      cpuHeld (Package.atReset true 3#8) = false ∧ Memory.wf (Package.atReset true 3#8).view = true) ∧
    (∀ w ∈ [Width.byte, .half, .dword], ∀ a ∈ [0, 1, 0xFEBFFFFC, 0xFFFFFFFF],
      ∀ i : Nat, i < widthBytes w →
        addressTarget State.reset.platform .memory (BitVec.ofNat 32 a + BitVec.ofNat 32 i) = .outside) ∧
    (seeing.unseen[0]? = some ⟨1, 5#32, 7#8⟩ ∧ seeing.packages[1]? = some (Package.atReset true 1#8) ∧
      Memory.wf (Package.atReset true 1#8).view = true) :=
  ⟨⟨rfl, rfl, by decide +kernel, rfl⟩, by decide +kernel, rfl, rfl, rfl⟩

/-- A part of a register, a cycle that runs into the pages, the floppy controller's ports at both ends of the range, and a cycle
that reaches them with its last byte only. -/
theorem witness_OtherCycles :
    (State.reset.packages[0]? = some (Package.atReset true 0#8) ∧ (Package.atReset true 0#8).hasCpu = true ∧
      cpuHeld (Package.atReset true 0#8) = false ∧ (Package.atReset true 0#8).cpu.pageUncached = true) ∧
    addressTarget State.reset.platform .memory 0xFEE00081#32 ≠ .outside ∧ (0xFEE00081#32).extractLsb' 0 4 ≠ 0#4 ∧
    Width.byte ≠ .dword ∧
    (addressTarget State.reset.platform .memory 0xFEDFFFFD#32 = .outside ∧
      ∃ i : Nat, i < widthBytes .dword ∧
        addressTarget State.reset.platform .memory (0xFEDFFFFD#32 + BitVec.ofNat 32 i) ≠ .outside) ∧
    (∀ a ∈ [0x3EF, 0x3F0, 0x3F7, 0x3F8], ∀ i : Nat, i < widthBytes .half →
      addressTarget State.reset.platform .io (BitVec.ofNat 32 a + BitVec.ofNat 32 i) = .outside) ∧
    (∃ i : Nat, i < widthBytes .half ∧ (0x3EF#32 + BitVec.ofNat 32 i).extractLsb' 3 7 = 0b1111110#7) :=
  ⟨⟨rfl, rfl, by decide +kernel, rfl⟩, by decide +kernel, by decide, by decide,
    ⟨by decide +kernel, 3, by decide, by decide +kernel⟩, by decide +kernel, 1, by decide, by decide⟩

end Sys2Proof.Tests
end

section
/-!
PROOFS. The decoder and the encoder are inverse (log 3). Each port has a form of cycle, and each table (selector, index, delivery
mode, opcode) a function from a code to its row. One direction says that a cycle of a form decodes to the row of its code; the
other that the row of a code is encoded by the cycle of that form. The bits of a word are laid out as appended fields, so both
come down to taking a field out of an append and to joining neighbouring fields again.
-/

namespace Sys2Proof

/-! ### Words as appended fields -/

theorem ofBool_getLsbD_eq_extractLsb' {w : Nat} (x : BitVec w) (i : Nat) :
    BitVec.ofBool (x.getLsbD i) = x.extractLsb' i 1 := by
  ext j hj
  obtain rfl : j = 0 := by omega
  simp

theorem setWidth_eq_zero_append {m : Nat} (k : Nat) (x : BitVec m) : x.setWidth (k + m) = 0#k ++ x := by
  rw [BitVec.setWidth_eq_append (Nat.le_add_left m k)]
  ext i hi
  simp [BitVec.getElem_append]

/-- R113: the word of an index. -/
theorem indexWord_eq_append (idx : Byte) : idx.setWidth 32 = 0#24 ++ idx := setWidth_eq_zero_append 24 idx

/-- R120: the word of a JTAG opcode. -/
theorem opcodeWord_eq_append (op : BitVec 4) : op.setWidth 32 = 0#28 ++ op := setWidth_eq_zero_append 28 op

/-- R125: the word of the two bytes of the floppy command. -/
theorem floppyWord_eq_append (pr : Byte) : (0x12#8 ++ pr).setWidth 32 = 0x12#24 ++ pr := by
  rw [BitVec.setWidth_append]
  rfl

/-! ### Addresses (R81, R83, R112) -/

@[simp] theorem locationOf_registerAddress (l : Location) (sel : BitVec 6) :
    locationOf l.space (registerAddress l sel) = l := by
  have page : (registerAddress l sel).extractLsb' 10 22 = l.page := BitVec.extractLsb'_append_eq_left
  rw [locationOf, page]

@[simp] theorem selectorOf_registerAddress (l : Location) (sel : BitVec 6) :
    selectorOf (registerAddress l sel) = sel := by
  have offset : (registerAddress l sel).extractLsb' 4 6 = (sel ++ 0#4).extractLsb' 4 6 :=
    BitVec.extractLsb'_append_eq_of_add_le (by omega)
  exact offset.trans BitVec.extractLsb'_append_eq_left

@[simp] theorem aligned_registerAddress (l : Location) (sel : BitVec 6) : aligned (registerAddress l sel) = true := by
  have offset : (registerAddress l sel).extractLsb' 0 4 = (sel ++ 0#4).extractLsb' 0 4 :=
    BitVec.extractLsb'_append_eq_of_add_le (by omega)
  exact beq_iff_eq.2 (offset.trans BitVec.extractLsb'_append_eq_right)

theorem registerAddress_of_aligned {w : Word} (sp : Space) (h : aligned w = true) :
    registerAddress (locationOf sp w) (selectorOf w) = w := by
  have low : w.extractLsb' 0 4 = 0#4 := eq_of_beq h
  calc w.extractLsb' 10 22 ++ (w.extractLsb' 4 6 ++ 0#4)
    _ = w.extractLsb' 10 22 ++ w.extractLsb' 0 10 := by
        rw [← low, BitVec.extractLsb'_append_extractLsb'_eq_extractLsb' (by omega)]
    _ = w := BitVec.extractLsb'_append_extractLsb'

theorem ioLocation_eq_getElem {pf : Platform} {n : Nat} (hn : unitHasAddress pf n) : ioLocation pf n = pf.ious[n] :=
  List.getD_eq_getElem _ _ hn

theorem addressTarget_eq_localUnit {pf : Platform} {sp : Space} {w : Word} {sel : BitVec 6}
    (h : addressTarget pf sp w = .localUnit sel) : pf.lu = locationOf sp w ∧ selectorOf w = sel := by
  unfold addressTarget at h
  split at h
  next atLu => exact ⟨atLu.symm, Target.localUnit.inj h⟩
  next => split at h <;> cases h

theorem addressTarget_eq_ioUnit {pf : Platform} {sp : Space} {w : Word} {n : Nat} {sel : BitVec 6}
    (h : addressTarget pf sp w = .ioUnit n sel) :
    unitHasAddress pf n ∧ ioLocation pf n = locationOf sp w ∧ selectorOf w = sel := by
  unfold addressTarget at h
  split at h
  next => cases h
  next =>
    split at h
    next m found =>
      cases h
      obtain ⟨hn, here, -⟩ := List.findIdx?_eq_some_iff_getElem.1 found
      exact ⟨hn, (ioLocation_eq_getElem hn).trans (eq_of_beq here), rfl⟩
    next => cases h

theorem findIdx?_ioLocation {pf : Platform} {n : Nat} (hd : pf.ious.Nodup) (hn : unitHasAddress pf n) :
    pf.ious.findIdx? (fun l => l == ioLocation pf n) = some n := by
  rw [List.findIdx?_eq_some_iff_getElem, ioLocation_eq_getElem hn]
  refine ⟨hn, beq_self_eq_true _, fun j hj same => ?_⟩
  rw [beq_iff_eq, hd.getElem_inj_iff] at same
  omega

theorem addressTarget_localRegister (pf : Platform) (sel : BitVec 6) :
    addressTarget pf pf.lu.space (registerAddress pf.lu sel) = .localUnit sel := by
  simp [addressTarget]

/-- Only here do the pages have to differ: the decoder takes the local units first, and then the first I/O unit that fits. -/
theorem addressTarget_ioRegister {pf : Platform} {n : Nat} (hd : (pf.lu :: pf.ious).Nodup) (hn : unitHasAddress pf n)
    (sel : BitVec 6) :
    addressTarget pf (ioLocation pf n).space (registerAddress (ioLocation pf n) sel) = .ioUnit n sel := by
  obtain ⟨notLu, hio⟩ := List.nodup_cons.1 hd
  have other : ioLocation pf n ≠ pf.lu := fun same => notLu (same ▸ ioLocation_eq_getElem hn ▸ List.getElem_mem hn)
  simp [addressTarget, other, findIdx?_ioLocation hio hn]

/-! ### Command words (R48) -/

@[simp] theorem commandReserved_commandWord (mode : BitVec 3) (f : CommandFields) :
    commandReserved (commandWord mode f) = false := by
  have high : (commandWord mode f).extractLsb' 20 12 = 0#12 := BitVec.extractLsb'_append_eq_left
  have bit13 : (commandWord mode f).getLsbD 13 = false := by
    simp only [commandWord, BitVec.getLsbD_append]
    simp
  rw [commandReserved, high, bit13]
  rfl

@[simp] theorem mode_commandWord (mode : BitVec 3) (f : CommandFields) : (commandWord mode f).extractLsb' 8 3 = mode := by
  unfold commandWord
  iterate 8 rw [BitVec.extractLsb'_append_eq_of_add_le (by omega)]
  exact BitVec.extractLsb'_append_eq_left

@[simp] theorem commandFields_commandWord (mode : BitVec 3) (f : CommandFields) :
    commandFields (commandWord mode f) = f := by
  obtain ⟨shorthand, readStatus, triggerLevel, level, deliveryState, logical, vector⟩ := f
  simp only [commandFields, commandWord, CommandFields.mk.injEq]
  refine ⟨?shorthand, ?readStatus, ?triggerLevel, ?level, ?deliveryState, ?logical, ?vector⟩
  case shorthand =>
    rw [BitVec.extractLsb'_append_eq_of_add_le (by omega)]
    exact BitVec.extractLsb'_append_eq_left
  case readStatus =>
    iterate 2 rw [BitVec.extractLsb'_append_eq_of_add_le (by omega)]
    exact BitVec.extractLsb'_append_eq_left
  case vector =>
    iterate 9 rw [BitVec.extractLsb'_append_eq_of_add_le (by omega)]
    exact BitVec.extractLsb'_eq_self
  all_goals
    simp only [BitVec.getLsbD_append]
    simp

theorem commandWord_commandFields {w : Word} (h : commandReserved w = false) :
    commandWord (w.extractLsb' 8 3) (commandFields w) = w := by
  obtain ⟨high, low13⟩ : w.extractLsb' 20 12 = 0#12 ∧ w.getLsbD 13 = false := by simpa [commandReserved] using h
  have bit13 : w.extractLsb' 13 1 = 0#1 := by
    rw [← ofBool_getLsbD_eq_extractLsb', low13]
    rfl
  simp only [commandWord, commandFields, ofBool_getLsbD_eq_extractLsb']
  rw [← high, ← bit13]
  iterate 9 rw [BitVec.extractLsb'_append_extractLsb'_eq_extractLsb' (by omega)]
  exact BitVec.extractLsb'_eq_self

/-! ### The tables: the row of a code is encoded by the cycle of that code -/

theorem encode_localInstr (pf : Platform) (sel : BitVec 6) (p : Nat) (a : Access) :
    encode pf (localInstr sel p a) = registerCycle pf.lu sel p a := by
  obtain ⟨sel⟩ := sel
  fin_cases sel <;> rfl

theorem wellFormed_localInstr (pf : Platform) (sel : BitVec 6) (p : Nat) (a : Access) :
    WellFormed pf (localInstr sel p a) := by
  unfold localInstr
  split <;> rfl

theorem localInstr_isr (k : BitVec 3) (p : Nat) (a : Access) : localInstr (0b010#3 ++ k) p a = .luIsr p k a := by
  obtain ⟨k⟩ := k
  fin_cases k <;> rfl

theorem localInstr_tmr (k : BitVec 3) (p : Nat) (a : Access) : localInstr (0b011#3 ++ k) p a = .luTmr p k a := by
  obtain ⟨k⟩ := k
  fin_cases k <;> rfl

theorem localInstr_irr (k : BitVec 3) (p : Nat) (a : Access) : localInstr (0b100#3 ++ k) p a = .luIrr p k a := by
  obtain ⟨k⟩ := k
  fin_cases k <;> rfl

theorem ioInstr_of_reserved {sel : BitVec 6} (h : directSelectorReserved sel) (p n : Nat) (a : Access) :
    ioInstr sel p n a = .ioReservedDirect p n sel a := by
  unfold ioInstr
  split
  case h_1 zero => omega
  case h_2 one => omega
  case h_3 => rfl

/-- R60: the three rows of the direct selectors. -/
theorem ioInstr_cases (sel : BitVec 6) (p n : Nat) (a : Access) :
    (sel = 0#6 ∧ ioInstr sel p n a = .ioSelect p n a) ∨ (sel = 1#6 ∧ ioInstr sel p n a = .ioWindow p n a) ∨
      (directSelectorReserved sel ∧ ioInstr sel p n a = .ioReservedDirect p n sel a) := by
  by_cases reserved : directSelectorReserved sel
  · exact .inr (.inr ⟨reserved, ioInstr_of_reserved reserved p n a⟩)
  · obtain rfl | rfl : sel = 0#6 ∨ sel = 1#6 := by bv_omega
    · exact .inl ⟨rfl, rfl⟩
    · exact .inr (.inl ⟨rfl, rfl⟩)

theorem encode_ioInstr (pf : Platform) (sel : BitVec 6) (p n : Nat) (a : Access) :
    encode pf (ioInstr sel p n a) = registerCycle (ioLocation pf n) sel p a := by
  obtain ⟨rfl, row⟩ | ⟨rfl, row⟩ | ⟨-, row⟩ := ioInstr_cases sel p n a <;> rw [row] <;> rfl

theorem wellFormed_ioInstr {pf : Platform} {n : Nat} (hn : unitHasAddress pf n) (sel : BitVec 6) (p : Nat) (a : Access) :
    WellFormed pf (ioInstr sel p n a) := by
  have unit : decide (unitHasAddress pf n) = true := decide_eq_true hn
  obtain ⟨-, row⟩ | ⟨-, row⟩ | ⟨reserved, row⟩ := ioInstr_cases sel p n a <;> rw [row]
  · exact unit
  · exact unit
  · exact Bool.and_eq_true_iff.2 ⟨unit, decide_eq_true reserved⟩

/-- R113: an index is the number of its half of the table, the entry's number there and the half of the entry. -/
theorem rtIndex_fields (idx : Byte) : rtIndex (idx.extractLsb' 4 4) (idx.extractLsb' 1 3) (idx.extractLsb' 0 1) = idx := by
  unfold rtIndex
  iterate 2 rw [BitVec.extractLsb'_append_extractLsb'_eq_extractLsb' (by omega)]
  simp

theorem indexReserved_iff (idx : Byte) :
    indexReserved idx ↔ idx ≠ 0#8 ∧ idx ≠ 1#8 ∧ idx.extractLsb' 4 4 ≠ 1#4 ∧ idx.extractLsb' 4 4 ≠ 2#4 := by
  have upper (x : BitVec 4) : idx.extractLsb' 4 4 = x ↔ idx.toNat / 16 = x.toNat := by
    rw [← BitVec.toNat_inj, BitVec.extractLsb'_toNat, Nat.shiftRight_eq_div_pow]
    omega
  simp only [ne_eq, upper, ← BitVec.toNat_inj, BitVec.toNat_ofNat]
  omega

theorem indexInstr_of_reserved {idx : Byte} (h : indexReserved idx) (p n : Nat) (a : Access) :
    indexInstr idx p n a = .ioIdxReserved p n idx a := by
  obtain ⟨ne0, ne1, low, high⟩ := (indexReserved_iff idx).1 h
  simp [indexInstr, ne0, ne1, low, high]

theorem indexInstr_rtLow0To7 (k : BitVec 3) (p n : Nat) (a : Access) :
    indexInstr (rtIndex 1 k 0) p n a = .ioIdxRtLow0To7 p n k a := by
  obtain ⟨k⟩ := k
  fin_cases k <;> rfl

theorem indexInstr_rtHigh0To7 (k : BitVec 3) (p n : Nat) (a : Access) :
    indexInstr (rtIndex 1 k 1) p n a = .ioIdxRtHigh0To7 p n k a := by
  obtain ⟨k⟩ := k
  fin_cases k <;> rfl

theorem indexInstr_rtLow8To15 (k : BitVec 3) (p n : Nat) (a : Access) :
    indexInstr (rtIndex 2 k 0) p n a = .ioIdxRtLow8To15 p n k a := by
  obtain ⟨k⟩ := k
  fin_cases k <;> rfl

theorem indexInstr_rtHigh8To15 (k : BitVec 3) (p n : Nat) (a : Access) :
    indexInstr (rtIndex 2 k 1) p n a = .ioIdxRtHigh8To15 p n k a := by
  obtain ⟨k⟩ := k
  fin_cases k <;> rfl

/-- R61, R113: the forms of an index. -/
theorem index_cases (idx : Byte) :
    idx = 0#8 ∨ idx = 1#8 ∨ indexReserved idx ∨
      ∃ k, idx = rtIndex 1 k 0 ∨ idx = rtIndex 1 k 1 ∨ idx = rtIndex 2 k 0 ∨ idx = rtIndex 2 k 1 := by
  have half : idx.extractLsb' 0 1 = 0 ∨ idx.extractLsb' 0 1 = 1 := BitVec.eq_zero_or_eq_one _
  have fields := rtIndex_fields idx
  rw [indexReserved_iff]
  grind

theorem encode_indexInstr (pf : Platform) (idx : Byte) (p n : Nat) (a : Access) :
    encode pf (indexInstr idx p n a) = indexCycle idx p n a := by
  obtain rfl | rfl | reserved | ⟨k, rfl | rfl | rfl | rfl⟩ := index_cases idx
  · rfl
  · rfl
  · rw [indexInstr_of_reserved reserved, encode]
  · rw [indexInstr_rtLow0To7, encode]
  · rw [indexInstr_rtHigh0To7, encode]
  · rw [indexInstr_rtLow8To15, encode]
  · rw [indexInstr_rtHigh8To15, encode]

theorem wellFormed_indexInstr {pf : Platform} {n : Nat} (hn : unitHasAddress pf n) (idx : Byte) (p : Nat) (a : Access) :
    WellFormed pf (indexInstr idx p n a) := by
  have unit : decide (unitHasAddress pf n) = true := decide_eq_true hn
  obtain rfl | rfl | reserved | ⟨k, rfl | rfl | rfl | rfl⟩ := index_cases idx
  · exact unit
  · exact unit
  · rw [indexInstr_of_reserved reserved]
    exact Bool.and_eq_true_iff.2 ⟨unit, decide_eq_true reserved⟩
  · exact indexInstr_rtLow0To7 .. ▸ unit
  · exact indexInstr_rtHigh0To7 .. ▸ unit
  · exact indexInstr_rtLow8To15 .. ▸ unit
  · exact indexInstr_rtHigh8To15 .. ▸ unit

theorem encode_commandInstr (pf : Platform) (mode : BitVec 3) (p : Nat) (f : CommandFields) :
    encode pf (commandInstr mode p f) = commandCycle mode p f := by
  obtain ⟨mode⟩ := mode
  fin_cases mode <;> rfl

theorem wellFormed_commandInstr (pf : Platform) (mode : BitVec 3) (p : Nat) (f : CommandFields) :
    WellFormed pf (commandInstr mode p f) := by
  unfold commandInstr
  split <;> rfl

theorem encode_jtagInstr (pf : Platform) (op : BitVec 4) (k : Nat) (tdi : List Bool) :
    encode pf (jtagInstr op k tdi) = jtagCycle op k tdi := by
  obtain ⟨op⟩ := op
  fin_cases op <;> rfl

theorem wellFormed_jtagInstr (pf : Platform) (op : BitVec 4) (k : Nat) (tdi : List Bool) :
    WellFormed pf (jtagInstr op k tdi) := by
  unfold jtagInstr
  split <;> rfl

/-! ### A cycle of each form decodes to the row of its code -/

theorem decode_of_spacePort {pf : Platform} {sp : Space} {c : Cycle} (h : c.port = spacePort sp) :
    decode pf c = decodeBus pf sp c := by
  cases sp <;> rw [decode, h] <;> rfl

theorem decode_localRegister (pf : Platform) (sel : BitVec 6) (p : Nat) (a : Access) :
    decode pf (registerCycle pf.lu sel p a) = .ok (localInstr sel p a) := by
  rw [decode_of_spacePort (sp := pf.lu.space) rfl]
  simp [decodeBus, registerCycle, addressTarget_localRegister]

theorem decode_ioRegister {pf : Platform} {n : Nat} (hd : (pf.lu :: pf.ious).Nodup) (hn : unitHasAddress pf n)
    (sel : BitVec 6) (p : Nat) (a : Access) :
    decode pf (registerCycle (ioLocation pf n) sel p a) = .ok (ioInstr sel p n a) := by
  rw [decode_of_spacePort (sp := (ioLocation pf n).space) rfl]
  simp [decodeBus, registerCycle, addressTarget_ioRegister hd hn]

theorem decode_indexCycle {pf : Platform} {n : Nat} (hn : unitHasAddress pf n) (idx : Byte) (p : Nat) (a : Access) :
    decode pf (indexCycle idx p n a) = .ok (indexInstr idx p n a) := by
  have high : (0#24 ++ idx).extractLsb' 8 24 = 0#24 := BitVec.extractLsb'_append_eq_left
  have low : (0#24 ++ idx).extractLsb' 0 8 = idx := BitVec.extractLsb'_append_eq_right
  simp only [decode, indexCycle, indexWord_eq_append]
  rw [high, low]
  exact if_pos hn

theorem decode_commandCycle (pf : Platform) (mode : BitVec 3) (p : Nat) (f : CommandFields) :
    decode pf (commandCycle mode p f) = .ok (commandInstr mode p f) := by
  simp [decode, commandCycle]

theorem decode_jtagCycle (pf : Platform) (op : BitVec 4) (k : Nat) (tdi : List Bool) :
    decode pf (jtagCycle op k tdi) = .ok (jtagInstr op k tdi) := by
  have high : (0#28 ++ op).extractLsb' 4 28 = 0#28 := BitVec.extractLsb'_append_eq_left
  have low : (0#28 ++ op).extractLsb' 0 4 = op := BitVec.extractLsb'_append_eq_right
  simp only [decode, jtagCycle, opcodeWord_eq_append]
  rw [high, low]
  rfl

theorem decode_fdcPerpendicularMode (pf : Platform) (pr : Byte) :
    decode pf (encode pf (.fdcPerpendicularMode pr)) = .ok (.fdcPerpendicularMode pr) := by
  have high : (0x12#24 ++ pr).extractLsb' 8 24 = 0x12#24 := BitVec.extractLsb'_append_eq_left
  have low : (0x12#24 ++ pr).extractLsb' 0 8 = pr := BitVec.extractLsb'_append_eq_right
  simp only [decode, encode, floppyWord_eq_append]
  rw [high, low]
  rfl

/-- The round trip, one case per form of a row's cycle. -/
theorem decode_encode {pf : Platform} {i : Instr} (hd : (pf.lu :: pf.ious).Nodup) (h : WellFormed pf i) :
    decode pf (encode pf i) = .ok i := by
  cases i with
  | luId p a | luVersion p a | luTpr p a | luEoi p a | luRemote p a | luLdr p a | luDfr p a | luSvr p a
  | luIcrLow p a | luIcrHigh p a | luLvtTimer p a | luLvtLint0 p a | luLvtLint1 p a
  | luTimerInit p a | luTimerCur p a | luTimerDiv p a
  | luReserved000000 p a | luReserved000001 p a | luReserved000100 p a | luReserved000101 p a | luReserved000110 p a
  | luReserved000111 p a | luReserved001001 p a | luReserved001010 p a | luReserved101000 p a | luReserved101001 p a
  | luReserved101010 p a | luReserved101011 p a | luReserved101100 p a | luReserved101101 p a | luReserved101110 p a
  | luReserved101111 p a | luReserved110011 p a | luReserved110100 p a | luReserved110111 p a | luReserved111010 p a
  | luReserved111011 p a | luReserved111100 p a | luReserved111101 p a | luReserved111111 p a =>
    exact decode_localRegister pf _ p a
  | luIsr p k a => exact (decode_localRegister pf _ p a).trans (congrArg _ (localInstr_isr k p a))
  | luTmr p k a => exact (decode_localRegister pf _ p a).trans (congrArg _ (localInstr_tmr k p a))
  | luIrr p k a => exact (decode_localRegister pf _ p a).trans (congrArg _ (localInstr_irr k p a))
  | ioSelect p n a | ioWindow p n a => exact decode_ioRegister hd (of_decide_eq_true h) _ p a
  | ioReservedDirect p n sel a =>
    obtain ⟨hn, reserved⟩ := Bool.and_eq_true_iff.1 h
    exact (decode_ioRegister hd (of_decide_eq_true hn) sel p a).trans
      (congrArg _ (ioInstr_of_reserved (of_decide_eq_true reserved) p n a))
  | ioIdxId p n a | ioIdxVersion p n a => exact decode_indexCycle (of_decide_eq_true h) _ p a
  | ioIdxRtLow0To7 p n k a =>
    exact (decode_indexCycle (of_decide_eq_true h) _ p a).trans (congrArg _ (indexInstr_rtLow0To7 k p n a))
  | ioIdxRtHigh0To7 p n k a =>
    exact (decode_indexCycle (of_decide_eq_true h) _ p a).trans (congrArg _ (indexInstr_rtHigh0To7 k p n a))
  | ioIdxRtLow8To15 p n k a =>
    exact (decode_indexCycle (of_decide_eq_true h) _ p a).trans (congrArg _ (indexInstr_rtLow8To15 k p n a))
  | ioIdxRtHigh8To15 p n k a =>
    exact (decode_indexCycle (of_decide_eq_true h) _ p a).trans (congrArg _ (indexInstr_rtHigh8To15 k p n a))
  | ioIdxReserved p n idx a =>
    obtain ⟨hn, reserved⟩ := Bool.and_eq_true_iff.1 h
    exact (decode_indexCycle (of_decide_eq_true hn) idx p a).trans
      (congrArg _ (indexInstr_of_reserved (of_decide_eq_true reserved) p n a))
  | msgFixed p f | msgLowestPriority p f | msgReserved010 p f | msgRemoteRead p f | msgNmi p f | msgReset p f
  | msgReserved110 p f | msgExtint p f =>
    exact decode_commandCycle pf _ p f
  | jtagExtest k tdi | jtagSamplePreload k tdi | jtagIdcode k tdi | jtagReserved1001 k tdi | jtagBypass k tdi
  | jtagUnlisted0011 k tdi | jtagUnlisted0100 k tdi | jtagUnlisted0101 k tdi | jtagUnlisted0110 k tdi
  | jtagUnlisted0111 k tdi | jtagUnlisted1000 k tdi | jtagUnlisted1010 k tdi | jtagUnlisted1011 k tdi
  | jtagUnlisted1100 k tdi | jtagUnlisted1101 k tdi | jtagUnlisted1110 k tdi =>
    exact decode_jtagCycle pf _ k tdi
  | fdcPerpendicularMode pr => exact decode_fdcPerpendicularMode pf pr
  | fdcDumpregResult8 => rfl

/-- Settles O1, by cases on the operation: a cycle of each form decodes to the row of the code it carries. -/
theorem decodeOfEncode : Obligations.DecodeOfEncode := fun _ _ hd h => decode_encode hd h

/-! ### What decodes has the port and the word it was read from -/

/-- `i` is well-formed and its own cycle has the port and the word of `c`. -/
structure WritesBack (pf : Platform) (c : Cycle) (i : Instr) : Prop where
  wellFormed : WellFormed pf i
  port : (encode pf i).port = c.port
  word : (encode pf i).word = c.word

/-- It is enough to know the cycle `i` is encoded by. -/
theorem WritesBack.of_encode {pf : Platform} {c c' : Cycle} {i : Instr} (hw : WellFormed pf i) (he : encode pf i = c')
    (hp : c'.port = c.port) (hword : c'.word = c.word) : WritesBack pf c i :=
  ⟨hw, he ▸ hp, he ▸ hword⟩

theorem writesBack_of_register {pf : Platform} {sp : Space} {c : Cycle} {i : Instr} {p : Nat} {a : Access}
    (hp : c.port = spacePort sp) (offset : aligned c.word = true) (hw : WellFormed pf i)
    (he : encode pf i = registerCycle (locationOf sp c.word) (selectorOf c.word) p a) : WritesBack pf c i :=
  .of_encode hw he hp.symm (registerAddress_of_aligned sp offset)

theorem writesBack_of_decodeBus {pf : Platform} {sp : Space} {c : Cycle} {i : Instr} (hp : c.port = spacePort sp)
    (h : decode pf c = .ok i) : WritesBack pf c i := by
  rw [decode_of_spacePort hp, decodeBus] at h
  split at h
  case h_1 => cases h
  case h_2 sel target =>
    obtain ⟨page, rfl⟩ := addressTarget_eq_localUnit target
    split_ifs at h with access
    cases h
    obtain ⟨-, offset⟩ := Bool.and_eq_true_iff.1 access
    exact writesBack_of_register hp offset (wellFormed_localInstr ..) (page ▸ encode_localInstr ..)
  case h_3 n sel target =>
    obtain ⟨hn, page, rfl⟩ := addressTarget_eq_ioUnit target
    split_ifs at h with access
    cases h
    obtain ⟨-, offset⟩ := Bool.and_eq_true_iff.1 access
    exact writesBack_of_register hp offset (wellFormed_ioInstr hn ..) (page ▸ encode_ioInstr ..)

theorem writesBack_of_decode_window {pf : Platform} {c : Cycle} {i : Instr} (hp : c.port = .window)
    (h : decode pf c = .ok i) : WritesBack pf c i := by
  simp only [decode, hp] at h
  split_ifs at h with high _ hn
  cases h
  refine .of_encode (wellFormed_indexInstr hn ..) (encode_indexInstr ..) hp.symm ?_
  rw [indexCycle, indexWord_eq_append, ← eq_of_beq high]
  exact BitVec.extractLsb'_append_extractLsb'

theorem writesBack_of_decode_command {pf : Platform} {c : Cycle} {i : Instr} (hp : c.port = .command)
    (h : decode pf c = .ok i) : WritesBack pf c i := by
  simp only [decode, hp] at h
  split_ifs at h with reserved
  cases h
  exact .of_encode (wellFormed_commandInstr ..) (encode_commandInstr ..) hp.symm
    (commandWord_commandFields (Bool.eq_false_iff.2 reserved))

theorem writesBack_of_decode_tap {pf : Platform} {c : Cycle} {i : Instr} (hp : c.port = .tap)
    (h : decode pf c = .ok i) : WritesBack pf c i := by
  simp only [decode, hp] at h
  split_ifs at h with high
  cases h
  refine .of_encode (wellFormed_jtagInstr ..) (encode_jtagInstr ..) hp.symm ?_
  rw [jtagCycle, opcodeWord_eq_append, ← eq_of_beq high]
  exact BitVec.extractLsb'_append_extractLsb'

theorem writesBack_of_decode_fifo {pf : Platform} {c : Cycle} {i : Instr} (hp : c.port = .fifo)
    (h : decode pf c = .ok i) : WritesBack pf c i := by
  simp only [decode, hp] at h
  split_ifs at h with first
  cases h
  refine .of_encode rfl rfl hp.symm ((floppyWord_eq_append _).trans ?_)
  rw [← eq_of_beq first]
  exact BitVec.extractLsb'_append_extractLsb'

theorem writesBack_of_decode {pf : Platform} {c : Cycle} {i : Instr} (hp : c.port ≠ .result)
    (h : decode pf c = .ok i) : WritesBack pf c i := by
  cases port : c.port with
  | bus => exact writesBack_of_decodeBus (sp := .memory) port h
  | ioSpace => exact writesBack_of_decodeBus (sp := .io) port h
  | window => exact writesBack_of_decode_window port h
  | command => exact writesBack_of_decode_command port h
  | tap => exact writesBack_of_decode_tap port h
  | fifo => exact writesBack_of_decode_fifo port h
  | result => exact absurd port hp

theorem decode_result {pf : Platform} {c : Cycle} (hp : c.port = .result) : decode pf c = .ok .fdcDumpregResult8 := by
  rw [decode, hp]

/-- Settles O2, port by port; the read of the DUMPREG byte is the one operation without a word. -/
theorem encodeOfDecode : Obligations.EncodeOfDecode := by
  intro pf c i h
  by_cases hp : c.port = .result
  · rw [decode_result hp] at h
    cases h
    exact ⟨rfl, hp.symm, fun hw => absurd hp hw⟩
  · obtain ⟨hw, port, word⟩ := writesBack_of_decode hp h
    exact ⟨hw, port, fun _ => word⟩

end Sys2Proof
end

section
/-!
PROOFS. A step and the machine after reset (log 1, log 3, log 7); updates of a package whose content is known.
-/

namespace Sys2Proof.Machine

/-! ### A step -/

theorem onEvent_eq (s : State) (e : Event) (r : List Input) : onEvent s e r = runEvent e { s with input := r } := rfl

theorem onCycle_eq (s : State) (c : Cycle) (r : List Input) : onCycle s c r = runCycle c { s with input := r } := rfl

theorem runCycle_of_decode {s : State} {c : Cycle} {i : Instr} (h : decode s.platform c = .ok i) :
    runCycle c s = exec i s := by rw [runCycle, h]

theorem step_op {s : State} {c : Cycle} {r : List Input} (h : s.input = .op c :: r) :
    step s = runCycle c { s with input := r } := by
  simp only [step, consumeInput, h, List.tail_cons]

/-- Settles O4: the decoder reads the platform, which consuming the cycle leaves alone. -/
theorem stepRunsDecoded : Obligations.StepRunsDecoded := fun _ _ _ _ head decodes =>
  (step_op head).trans (runCycle_of_decode decodes)

/-! ### Words of the table -/

/-- Settles O3: each word is a closed one, and the decoder evaluates on it. -/
theorem decodesTableWords : Obligations.DecodesTableWords := ⟨rfl, rfl, rfl, rfl, rfl, rfl, rfl, rfl⟩

/-! ### The machine after reset -/

/-- The ID register that holds a unit ID has no reserved bit set. -/
theorem idWord_reserved (unit : Byte) : idWord unit &&& ~~~idMask = 0#32 :=
  calc (unit ++ 0#24) &&& (0#8 ++ BitVec.allOnes 24)
    _ = (unit &&& 0#8) ++ (0#24 &&& BitVec.allOnes 24) := BitVec.and_append
    _ = 0#8 ++ 0#24 := by rw [BitVec.and_zero, BitVec.zero_and]

theorem lowVectorsClear_zero : LowVectorsClear 0#256 := rfl

theorem lvtReset_reserved : lvtReset &&& ~~~(lvtLintMask ||| entryReadOnly) = 0#32 := by decide

theorem reservedClear_cleared (unit : Byte) : (LocalUnit.cleared (idWord unit)).ReservedClear where
  id := idWord_reserved unit
  tpr := BitVec.zero_and
  svr := BitVec.zero_and
  icrLow := BitVec.zero_and
  lvtTimer := (by decide : lvtReset &&& ~~~(lvtTimerMask ||| timerReadOnly) = 0#32)
  lvtLint0 := lvtReset_reserved
  lvtLint1 := lvtReset_reserved

theorem enabled_cleared (id : Word) : enabled (LocalUnit.cleared id) = false := by
  simp [enabled, svrEnable, LocalUnit.cleared]

theorem localUnitInv_cleared (unit : Byte) : (LocalUnit.cleared (idWord unit)).Inv where
  isr := lowVectorsClear_zero
  tmr := lowVectorsClear_zero
  irr := lowVectorsClear_zero
  reserved := reservedClear_cleared unit
  commit := iff_of_true rfl (nofun : PinLevel.z ≠ .high)
  pint := iff_of_true rfl (enabled_cleared _)
  pnmi := by rw [enabled_cleared]; rfl
  external := nofun
  internal := nofun
  frozen := nofun
  genuine := nofun

theorem ioUnitInv_cleared : IoUnit.cleared.Inv where
  select := by decide
  id := by decide
  entries k := by
    rw [show IoUnit.cleared.rt.get k = rtReset from Vector.get_replicate ..]
    decide

theorem tapInv_cleared : Tap.cleared.Inv := ⟨rfl, fun _ => rfl⟩

theorem packageInv_atReset (pf : Platform) (hasCpu : Bool) (pins : Byte) : (Package.atReset hasCpu pins).Inv pf where
  lu := localUnitInv_cleared pins
  iou := ioUnitInv_cleared
  tap := tapInv_cleared
  wbuf := ⟨Nat.zero_le _, nofun⟩
  view := rfl
  held := nofun
  reset := nofun
  due extest := absurd extest (by decide : idcodeOpcode ≠ 0b0000#4)
  extInta _ _ := rfl

theorem resetOn_packages_get {pf : Platform} {kinds : List (Bool × Byte)} {p : Nat} {k : Package}
    (h : (State.resetOn pf kinds).packages[p]? = some k) : ∃ hasCpu pins, k = Package.atReset hasCpu pins := by
  obtain ⟨x, -, rfl⟩ := List.mem_map.1 (List.mem_of_getElem? h)
  exact ⟨x.1, x.2, rfl⟩

theorem inv_resetOn (pf : Platform) (kinds : List (Bool × Byte)) : (State.resetOn pf kinds).Inv where
  packages p k h := by
    obtain ⟨hasCpu, pins, rfl⟩ := resetOn_packages_get h
    exact packageInv_atReset pf hasCpu pins

/-- After reset no unit has a message and every delivery state is Idle. -/
theorem busInv_resetOn (pf : Platform) (kinds : List (Bool × Byte)) : (State.resetOn pf kinds).BusInv where
  pending p k h := by
    obtain ⟨hasCpu, pins, rfl⟩ := resetOn_packages_get h
    exact iff_of_false (by simp [Package.atReset, LocalUnit.cleared, sendPending]) (by simp [State.resetOn])
  single _ := Nat.zero_le _

/-- Settles O6: on every platform the packages after reset are cleared ones, and the bus is empty. -/
theorem resetInvariant : Obligations.ResetInvariant := ⟨inv_resetOn _ _, busInv_resetOn _ _⟩

/-! ### Updates of a package whose content is known -/

theorem modifyLocal_of {s : State} {p : Nat} {k : Package} (h : s.packages[p]? = some k) (f : LocalUnit → LocalUnit) :
    modifyLocal s p f = s.putLocal p k (f k.lu) := modifyPackage_of h _

theorem modifyIo_of {s : State} {n : Nat} {k : Package} (h : s.packages[n]? = some k) (f : IoUnit → IoUnit) :
    modifyIo s n f = s.putIo n k (f k.iou) := modifyPackage_of h _

theorem modifyCpu_of {s : State} {p : Nat} {k : Package} (h : s.packages[p]? = some k) (f : Cpu → Cpu) :
    modifyCpu s p f = s.putPackage p { k with cpu := f k.cpu } := modifyPackage_of h _

theorem putLocal_get_same {s : State} {p : Nat} {k : Package} (h : s.packages[p]? = some k) (u : LocalUnit) :
    (s.putLocal p k u).packages[p]? = some { k with lu := u } := putPackage_get_same h _

theorem putLocal_put (s : State) (p : Nat) (k : Package) (u u' : LocalUnit) :
    (s.putLocal p k u).putLocal p { k with lu := u } u' = s.putLocal p k u' := putPackage_put ..

end Sys2Proof.Machine
end


section
/-!
PROOFS. Accesses of a processor to registers (R80 to R90, R100, R101): every row is the access to its selector or index; what an
access does when the processor is held, when its page is cached and when it reaches the register; the Local Vector Table.
-/

namespace Sys2Proof.Machine

/-! ### Rows as accesses -/

/-- R30, R112: the row of a selector reads through `localRead` and writes through `localWrite`. -/
theorem exec_localInstr (sel : BitVec 6) (p : Nat) (a : Access) (s : State) :
    exec (localInstr sel p a) s = localAccess p sel a (localRead sel) (fun p v s => localWrite p sel v s) s := by
  obtain ⟨sel⟩ := sel
  fin_cases sel <;> rfl

theorem exec_ioInstr (sel : BitVec 6) (p n : Nat) (a : Access) (s : State) :
    exec (ioInstr sel p n a) s = ioAccess p n sel a s := by
  obtain ⟨rfl, row⟩ | ⟨rfl, row⟩ | ⟨-, row⟩ := ioInstr_cases sel p n a <;> rw [row] <;> rfl

theorem exec_indexInstr (i : Byte) (p n : Nat) (a : Access) (s : State) :
    exec (indexInstr i p n a) s = indexAccess p n i a s := by
  obtain rfl | rfl | reserved | ⟨k, rfl | rfl | rfl | rfl⟩ := index_cases i
  · rfl
  · rfl
  · rw [indexInstr_of_reserved reserved]; rfl
  · rw [indexInstr_rtLow0To7]; rfl
  · rw [indexInstr_rtHigh0To7]; rfl
  · rw [indexInstr_rtLow8To15]; rfl
  · rw [indexInstr_rtHigh8To15]; rfl

/-- R42, R48: the rows of the delivery modes that have a name. -/
def commandRows : List (Nat → CommandFields → Instr) :=
  [.msgFixed, .msgLowestPriority, .msgRemoteRead, .msgNmi, .msgReset, .msgExtint]

theorem exec_commandRow {c : Nat → CommandFields → Instr} (h : c ∈ commandRows) (p : Nat) (f : CommandFields) :
    ∃ w, ∀ s, exec (c p f) s = commandAccess p w s := by
  simp only [commandRows, List.mem_cons, List.not_mem_nil, or_false] at h
  obtain rfl | rfl | rfl | rfl | rfl | rfl := h <;> exact ⟨_, fun _ => rfl⟩

/-- An access to a direct register of an I/O unit that the platform has. -/
theorem ioAccess_of {s : State} {n : Nat} (h : n < s.platform.ious.length) (p : Nat) (sel : BitVec 6) (a : Access) :
    ioAccess p n sel a s = registerAccess p (ioLocation s.platform n) sel a (readIo p n (ioRead sel)) (ioWrite n sel) s := by
  rw [ioAccess, List.getElem?_eq_getElem h, ioLocation_eq_getElem h]

/-! ### A processor that is held issues nothing (R24, R320) -/

/-- The processor of package `p`, `k`, is in reset or between the two cycles of an acknowledge. -/
structure ProcessorHeld (s : State) (p : Nat) (k : Package) : Prop where
  present : s.packages[p]? = some k
  wired : k.hasCpu = true
  held : cpuHeld k = true

section
variable {s : State} {p : Nat} {k : Package}

theorem ProcessorHeld.busGate (h : ProcessorHeld s p k) (sp : Space) (f : Package → Res) :
    busGate sp p s f = .next s := by
  rw [Machine.busGate, withProcessor_of _ h.present h.wired, if_pos h.held]

theorem ProcessorHeld.registerAccess (h : ProcessorHeld s p k) (l : Location) (sel : BitVec 6) (a : Access)
    (rd : State → Res) (wr : Word → State → Res) : registerAccess p l sel a rd wr s = .next s :=
  h.busGate _ _

theorem ProcessorHeld.ioAccess (h : ProcessorHeld s p k) {n : Nat} (hn : n < s.platform.ious.length) (sel : BitVec 6)
    (a : Access) : ioAccess p n sel a s = .next s := by
  rw [ioAccess_of hn, h.registerAccess]

/-- Neither the select nor the window access of an index happens. -/
theorem ProcessorHeld.indexAccess (h : ProcessorHeld s p k) {n : Nat} (hn : n < s.platform.ious.length) (i : Byte)
    (a : Access) : indexAccess p n i a s = .next s := by
  simp only [Machine.indexAccess, h.ioAccess hn, andThen_next]

theorem ProcessorHeld.localAccess (h : ProcessorHeld s p k) (sel : BitVec 6) (a : Access) (rd : LocalUnit → Option Word)
    (wr : Nat → Word → State → Res) : localAccess p sel a rd wr s = .next s :=
  h.registerAccess ..

theorem ProcessorHeld.localRow (h : ProcessorHeld s p k) (sel : BitVec 6) (a : Access) :
    exec (localInstr sel p a) s = .next s :=
  (exec_localInstr ..).trans (h.localAccess ..)

theorem ProcessorHeld.ioRow (h : ProcessorHeld s p k) {n : Nat} (hn : n < s.platform.ious.length) (sel : BitVec 6)
    (a : Access) : exec (ioInstr sel p n a) s = .next s :=
  (exec_ioInstr ..).trans (h.ioAccess hn ..)

theorem ProcessorHeld.indexRow (h : ProcessorHeld s p k) {n : Nat} (hn : n < s.platform.ious.length) (i : Byte)
    (a : Access) : exec (indexInstr i p n a) s = .next s :=
  (exec_indexInstr ..).trans (h.indexAccess hn ..)

theorem ProcessorHeld.commandRow (h : ProcessorHeld s p k) {c : Nat → CommandFields → Instr} (hc : c ∈ commandRows)
    (f : CommandFields) : exec (c p f) s = .next s := by
  obtain ⟨w, row⟩ := exec_commandRow hc p f
  exact (row s).trans (h.localAccess ..)

theorem ProcessorHeld.outsideRegisters (h : ProcessorHeld s p k) (sp : Space) {c : Cycle} (hc : c.agent = p)
    (f : Package → Res) : outsideRegisters sp c s f = .next s := by
  subst hc
  rw [Machine.outsideRegisters, withProcessor_of _ h.present h.wired, if_pos h.held]

/-- A cycle of the processor at the bus, whatever it selects: a local unit, an I/O unit or something else. -/
theorem ProcessorHeld.runCycle (h : ProcessorHeld s p k) {c : Cycle} {sp : Space} (hc : c.agent = p)
    (hp : c.port = spacePort sp) : runCycle c s = .next s := by
  subst hc
  rw [Machine.runCycle, decode_of_spacePort hp, decodeBus]
  cases target : addressTarget s.platform sp c.word with
  | outside =>
    by_cases io : c.port = .ioSpace
    · simp only [otherCycle, io, if_true]
      exact h.outsideRegisters _ rfl _
    · simp only [otherCycle, io, if_false]
      exact h.outsideRegisters _ rfl _
  | localUnit sel =>
    by_cases whole : (c.width == .dword && aligned c.word) = true
    · simp only [whole, if_true]
      exact h.localRow ..
    · simp only [whole]
      exact h.busGate ..
  | ioUnit n sel =>
    obtain ⟨hn, -, -⟩ := addressTarget_eq_ioUnit target
    by_cases whole : (c.width == .dword && aligned c.word) = true
    · simp only [whole, if_true]
      exact h.ioRow hn ..
    · simp only [whole]
      exact h.busGate ..

theorem ProcessorHeld.drainOne (h : ProcessorHeld s p k) : drainOne p s = .next s := by
  rw [Machine.drainOne, withProcessor_of _ h.present h.wired, if_pos h.held]

end

/-! ### A page that is not mapped uncached (R90, U5) -/

/-- The processor of package `p`, `k`, runs, and has not mapped the register page uncached. -/
structure PageCached (s : State) (p : Nat) (k : Package) : Prop where
  present : s.packages[p]? = some k
  wired : k.hasCpu = true
  running : cpuHeld k = false
  cached : k.cpu.pageUncached = false

section
variable {s : State} {p : Nat} {k : Package}

theorem PageCached.registerAccess (h : PageCached s p k) {l : Location} (hl : l.space = .memory) (sel : BitVec 6)
    (a : Access) (rd : State → Res) (wr : Word → State → Res) :
    registerAccess p l sel a rd wr s = .refused .apicPageCached := by
  have refuses : l.space = .memory ∧ k.cpu.pageUncached = false := ⟨hl, h.cached⟩
  simp only [Machine.registerAccess, busGate, withProcessor_of _ h.present h.wired, h.running, if_pos refuses]
  rfl

theorem PageCached.localRow (h : PageCached s p k) (hl : s.platform.lu.space = .memory) (sel : BitVec 6) (a : Access) :
    exec (localInstr sel p a) s = .refused .apicPageCached :=
  (exec_localInstr ..).trans (h.registerAccess hl ..)

theorem PageCached.ioAccess (h : PageCached s p k) {n : Nat} (hn : n < s.platform.ious.length)
    (hl : (ioLocation s.platform n).space = .memory) (sel : BitVec 6) (a : Access) :
    ioAccess p n sel a s = .refused .apicPageCached := by
  rw [ioAccess_of hn, h.registerAccess hl]

theorem PageCached.ioRow (h : PageCached s p k) {n : Nat} (hn : n < s.platform.ious.length)
    (hl : (ioLocation s.platform n).space = .memory) (sel : BitVec 6) (a : Access) :
    exec (ioInstr sel p n a) s = .refused .apicPageCached :=
  (exec_ioInstr ..).trans (h.ioAccess hn hl ..)

/-- The select is already refused. -/
theorem PageCached.indexRow (h : PageCached s p k) {n : Nat} (hn : n < s.platform.ious.length)
    (hl : (ioLocation s.platform n).space = .memory) (i : Byte) (a : Access) :
    exec (indexInstr i p n a) s = .refused .apicPageCached := by
  rw [exec_indexInstr]
  simp only [indexAccess, h.ioAccess hn hl, andThen_refused]

end

/-! ### A processor that may not acknowledge (R317) -/

theorem mayAcknowledge_eq_false {k : Package} (h : k.cpu.intrEnabled = false ∨ cpuInt k = false) :
    mayAcknowledge k = false := by
  obtain h | h := h <;> simp [mayAcknowledge, h]

theorem intaFirst_of_not_may {s : State} {p : Nat} {k : Package} (h : s.packages[p]? = some k) (hc : k.hasCpu = true)
    (hm : mayAcknowledge k = false) : intaFirst p s = .next s := by
  rw [intaFirst, withProcessor_of _ h hc, if_neg (by simp [hm])]

/-- Settles O16: the gate of a held processor stands before every access and cycle, that of a cached page before every access. -/
theorem processorGate : Obligations.ProcessorGate := by
  intro s p k sel a r present wired
  refine ⟨fun hold => ?held, fun running cached => ?cached, fun asks => ?acknowledge⟩
  case held =>
    have h : ProcessorHeld s p k := ⟨present, wired, hold⟩
    have h' : ProcessorHeld { s with input := r } p k := ⟨present, wired, hold⟩
    refine ⟨h.localRow .., fun n i hn => ⟨h.ioRow hn .., h.indexRow hn ..⟩, fun f c hc => h.commandRow hc f, ?cycles,
      (onEvent_eq ..).trans h'.drainOne⟩
    rintro c hc (port | port)
    · exact (onCycle_eq ..).trans (h'.runCycle (sp := .memory) hc port)
    · exact (onCycle_eq ..).trans (h'.runCycle (sp := .io) hc port)
  case cached =>
    have h : PageCached s p k := ⟨present, wired, running, cached⟩
    exact ⟨fun hl => h.localRow hl .., fun n i hn hl => ⟨h.ioRow hn hl .., h.indexRow hn hl ..⟩⟩
  case acknowledge =>
    exact (onEvent_eq ..).trans
      (intaFirst_of_not_may (s := { s with input := r }) present wired (mayAcknowledge_eq_false asks))

/-! ### Bits of a register that has been written -/

theorem getLsbD_writeMasked {n : Nat} (mask keep old v : BitVec n) (i : Nat) :
    (writeMasked mask keep old v).getLsbD i = (old.getLsbD i && keep.getLsbD i || v.getLsbD i && mask.getLsbD i) := by
  simp [writeMasked]

theorem getLsbD_lvtLintMask {b : Nat} (h : b < 32) : lvtLintMask.getLsbD b = decide (b < 11 ∨ b = 15 ∨ b = 16) := by
  decide +revert

theorem getLsbD_lvtTimerMask {b : Nat} (h : b < 32) :
    lvtTimerMask.getLsbD b = decide (b < 11 ∨ b = 15 ∨ b = 16 ∨ b = 17) := by
  decide +revert

theorem getLsbD_entryReadOnly {b : Nat} (h : b < 32) : entryReadOnly.getLsbD b = decide (b = 12 ∨ b = 14) := by
  decide +revert

theorem getLsbD_timerReadOnly {b : Nat} (h : b < 32) : timerReadOnly.getLsbD b = decide (b = 12) := by
  decide +revert

/-- A bit of a word written under a mask that does not meet the kept bits. -/
theorem getLsbD_writeMasked_of {n : Nat} {mask keep : BitVec n} {i : Nat} {written kept : Prop} [Decidable written]
    [Decidable kept] (hm : mask.getLsbD i = decide written) (hk : keep.getLsbD i = decide kept) (apart : kept → ¬written)
    (old v : BitVec n) :
    (writeMasked mask keep old v).getLsbD i = if written then v.getLsbD i else (decide kept && old.getLsbD i) := by
  rw [getLsbD_writeMasked, hm, hk]
  by_cases hw : written
  · have hk' : ¬kept := fun h => apart h hw
    simp [hw, hk']
  · simp [hw, Bool.and_comm]

/-! ### The Local Vector Table (R43, R182) -/

/-- R182: the detector of an entry that a write leaves masked waits; the mask is the written bit. -/
theorem rearm_written (old v : Word) (x : InputPin) :
    rearm (writeMasked lvtLintMask entryReadOnly old v) x = ⟨x.level, if v.getLsbD 16 then .waiting else x.edge⟩ := by
  have mask : maskedOf (writeMasked lvtLintMask entryReadOnly old v) = v.getLsbD 16 := by
    rw [maskedOf, getLsbD_writeMasked_of (getLsbD_lvtLintMask (by omega)) (getLsbD_entryReadOnly (by omega)) (by omega)]
    simp
  rw [rearm, mask]
  split <;> rfl

/-- Settles O11: each entry is stored under the mask of its writable bits and that of its read-only ones. -/
theorem vectorTableWrites : Obligations.VectorTableWrites := by
  intro s p k v ready empty
  refine ⟨writeMasked lvtTimerMask timerReadOnly k.lu.lvtTimer v, writeMasked lvtLintMask entryReadOnly k.lu.lvtLint0 v,
    writeMasked lvtLintMask entryReadOnly k.lu.lvtLint1 v, ?timer, ?lint0, ?lint1, fun b hb => ⟨?_, ?_, ?_⟩⟩
  case timer =>
    exact (localAccess_write ready.toReachesPage empty _ v readLvtTimer writeLvtTimer).trans (localStore_of ready _)
  case lint0 =>
    rw [← rearm_written k.lu.lvtLint0]
    exact (localAccess_write ready.toReachesPage empty _ v readLvtLint0 writeLvtLint0).trans (localStore_of ready _)
  case lint1 =>
    rw [← rearm_written k.lu.lvtLint1]
    exact (localAccess_write ready.toReachesPage empty _ v readLvtLint1 writeLvtLint1).trans (localStore_of ready _)
  · exact getLsbD_writeMasked_of (getLsbD_lvtLintMask hb) (getLsbD_entryReadOnly hb) (by omega) _ v
  · exact getLsbD_writeMasked_of (getLsbD_lvtLintMask hb) (getLsbD_entryReadOnly hb) (by omega) _ v
  · exact getLsbD_writeMasked_of (getLsbD_lvtTimerMask hb) (getLsbD_timerReadOnly hb) (by omega) _ v

end Sys2Proof.Machine
end


section
/-!
PROOFS. A read of an indirect register of an I/O unit (R61, R113, R200 to R202): a select, then a read of the window.
-/

namespace Sys2Proof.Machine

/-! ### Accesses that reach an I/O unit, nothing being buffered -/

theorem readIo_of {s : State} {n : Nat} {kn : Package} (h : IoReady s n kn) (p : Nat) (rd : IoUnit → Option Word) :
    readIo p n rd s = .next (returnRead s p (rd kn.iou)) := functional_of _ h.present h.usable

theorem ioStore_of {s : State} {n : Nat} {kn : Package} (h : IoReady s n kn) (f : State → Res) : ioStore n s f = f s := by
  simp [ioStore, functional_of _ h.present h.usable, h.released]

section
variable {s : State} {p n : Nat} {k kn : Package}

theorem ioAccess_read (reach : IoBusReady s p n k) (empty : k.cpu.wbuf = []) (ready : IoReady s n kn) (sel : BitVec 6) :
    ioAccess p n sel .read s = .next (returnRead s p (ioRead sel kn.iou)) := by
  simp only [ioAccess_of ready.mapped, registerAccess_of reach, drainAll_empty reach.present empty, andThen_next,
    readIo_of ready]

theorem ioAccess_write (reach : IoBusReady s p n k) (empty : k.cpu.wbuf = []) (mapped : n < s.platform.ious.length)
    (sel : BitVec 6) (v : Word) : ioAccess p n sel (.write v false) s = ioWrite n sel v s := by
  simp [ioAccess_of mapped, registerAccess_of reach, postOrWrite, withPackage_of _ reach.present,
    drainAll_empty reach.present empty]

/-- An index written to SELECT fits its eight bits. -/
theorem selectWord (i : Byte) : i.setWidth 32 &&& 0xFF#32 = i.setWidth 32 := by
  rw [indexWord_eq_append]
  calc (0#24 ++ i) &&& (0#24 ++ BitVec.allOnes 8)
    _ = (0#24 &&& 0#24) ++ (i &&& BitVec.allOnes 8) := BitVec.and_append
    _ = 0#24 ++ i := by rw [BitVec.and_self, BitVec.and_allOnes]

/-- `s` after the index `i` has been written to SELECT of I/O unit `n`. -/
def State.selected (s : State) (n : Nat) (kn : Package) (i : Byte) : State :=
  s.putIo n kn { kn.iou with select := i.setWidth 32 }

theorem ioAccess_select (reach : IoBusReady s p n k) (empty : k.cpu.wbuf = []) (ready : IoReady s n kn) (i : Byte) :
    ioAccess p n 0#6 (.write (i.setWidth 32) false) s = .next (s.selected n kn i) := by
  rw [ioAccess_write reach empty ready.mapped]
  calc ioStore n s (fun s => .next (modifyIo s n fun u => { u with select := i.setWidth 32 &&& 0xFF#32 }))
    _ = .next (s.putIo n kn { kn.iou with select := i.setWidth 32 &&& 0xFF#32 }) := by
        rw [ioStore_of ready, modifyIo_of ready.present]
    _ = .next (s.selected n kn i) := by rw [selectWord, State.selected]

/-! ### After the select the processor and the unit are still ready -/

theorem ioReady_selected (ready : IoReady s n kn) (i : Byte) :
    IoReady (s.selected n kn i) n { kn with iou := { kn.iou with select := i.setWidth 32 } } where
  present := putPackage_get_same ready.present _
  mapped := ready.mapped
  usable := ready.usable
  released := ready.released

/-- The select changes no processor: package `p` has the one it had, be it the package of the I/O unit or another. -/
theorem ioBusReady_selected (reach : IoBusReady s p n k) (ready : IoReady s n kn) (i : Byte) :
    ∃ k', IoBusReady (s.selected n kn i) p n k' ∧ k'.cpu = k.cpu := by
  have get := putPackage_get ready.present { kn with iou := { kn.iou with select := i.setWidth 32 } } p
  by_cases same : n = p
  · subst same
    obtain rfl : kn = k := Option.some.inj (ready.present.symm.trans reach.present)
    exact ⟨_, ⟨get.trans (if_pos rfl), reach.wired, reach.running, reach.uncached⟩, rfl⟩
  · exact ⟨k, ⟨(get.trans (if_neg same)).trans reach.present, reach.wired, reach.running, reach.uncached⟩, rfl⟩

/-! ### What the window returns -/

theorem selectedIndex_selected (u : IoUnit) (i : Byte) : selectedIndex { u with select := i.setWidth 32 } = i := by
  rw [selectedIndex, indexWord_eq_append]
  exact BitVec.extractLsb'_append_eq_right

/-- R201: the window reads what the index in SELECT names; the selected register is not SELECT itself. -/
theorem ioRead_window_selected (u : IoUnit) (i : Byte) :
    ioRead 1#6 { u with select := i.setWidth 32 } = indexRead i u := by
  change indexRead (selectedIndex { u with select := i.setWidth 32 }) { u with select := i.setWidth 32 } = indexRead i u
  rw [selectedIndex_selected]
  rfl

theorem indexAccess_read (reach : IoBusReady s p n k) (empty : k.cpu.wbuf = []) (ready : IoReady s n kn) (i : Byte) :
    indexAccess p n i .read s = .next (returnRead (s.selected n kn i) p (indexRead i kn.iou)) := by
  obtain ⟨k', reach', cpu⟩ := ioBusReady_selected reach ready i
  have empty' : k'.cpu.wbuf = [] := cpu ▸ empty
  simp only [indexAccess, ioAccess_select reach empty ready, andThen_next,
    ioAccess_read reach' empty' (ioReady_selected ready i), ioRead_window_selected]

/-- `s` after the index `i` has been written to SELECT of I/O unit `n` and processor `p` has received `w`. -/
def State.selectedReceived (s : State) (p n : Nat) (i : Byte) (w : Word) : State :=
  { s with
    packages := s.packages.mapIdx fun q kq =>
      { kq with
        iou := if q = n then { kq.iou with select := i.setWidth 32 } else kq.iou
        cpu := if q = p then { kq.cpu with data := w } else kq.cpu } }

theorem returnData_selected (present : s.packages[n]? = some kn) (p : Nat) (i : Byte) (w : Word) :
    returnData (s.selected n kn i) p w = s.selectedReceived p n i w := by
  rw [State.selected, ← modifyIo_of present fun u => { u with select := i.setWidth 32 }, State.selectedReceived]
  simp only [returnData, modifyCpu, modifyIo, modifyPackage]
  congr 1
  apply List.ext_getElem?
  intro q
  rw [List.getElem?_modify, List.getElem?_modify, List.getElem?_mapIdx]
  cases s.packages[q]? with
  | none => simp
  | some kq => by_cases hp : p = q <;> by_cases hn : n = q <;> simp [hp, hn, eq_comm]

/-- A read of an index that names a register. -/
theorem indexAccess_read_some (reach : IoBusReady s p n k) (empty : k.cpu.wbuf = []) (ready : IoReady s n kn) {i : Byte}
    {w : Word} (names : indexRead i kn.iou = some w) :
    indexAccess p n i .read s = .next (s.selectedReceived p n i w) := by
  rw [indexAccess_read reach empty ready, names]
  exact congrArg _ (returnData_selected ready.present ..)

/-- A read of an index that names none draws a free value. -/
theorem indexAccess_read_none (reach : IoBusReady s p n k) (empty : k.cpu.wbuf = []) (ready : IoReady s n kn) {i : Byte}
    (names : indexRead i kn.iou = none) :
    indexAccess p n i .read s =
      .next { s.selectedReceived p n i (Config.freeWord s.fresh) with fresh := s.fresh + 1 } := by
  rw [indexAccess_read reach empty ready, names, ← returnData_selected ready.present]
  rfl

end

/-! ### The registers an index names (R61, R113) -/

theorem indexRead_of_reserved {i : Byte} (h : indexReserved i) (u : IoUnit) : indexRead i u = none := by
  obtain ⟨ne0, ne1, -, -⟩ := (indexReserved_iff i).1 h
  have outside : ¬(0x10 ≤ i.toNat ∧ i.toNat < 0x30) := by omega
  simp [indexRead, ne0, ne1, outside]

/-- The indices of the low and of the high word of entry `e`. -/
theorem indexRead_entryLow (e : Fin 16) (u : IoUnit) :
    indexRead (BitVec.ofNat 8 (0x10 + 2 * e.val)) u = some (readEntryLow (u.rt.get e)) := by
  fin_cases e <;> rfl

theorem indexRead_entryHigh (e : Fin 16) (u : IoUnit) :
    indexRead (BitVec.ofNat 8 (0x11 + 2 * e.val)) u = some (highWord (u.rt.get e)) := by
  fin_cases e <;> rfl

theorem rtIndex_low0To7 (j : BitVec 3) : rtIndex 1 j 0 = BitVec.ofNat 8 (0x10 + 2 * j.toNat) := by decide +revert
theorem rtIndex_high0To7 (j : BitVec 3) : rtIndex 1 j 1 = BitVec.ofNat 8 (0x11 + 2 * j.toNat) := by decide +revert
theorem rtIndex_low8To15 (j : BitVec 3) : rtIndex 2 j 0 = BitVec.ofNat 8 (0x10 + 2 * (8 + j.toNat)) := by decide +revert
theorem rtIndex_high8To15 (j : BitVec 3) : rtIndex 2 j 1 = BitVec.ofNat 8 (0x11 + 2 * (8 + j.toNat)) := by decide +revert

theorem ioRead_of_reserved {sel : BitVec 6} (h : directSelectorReserved sel) (u : IoUnit) : ioRead sel u = none := by
  unfold ioRead
  split
  case h_1 zero => omega
  case h_2 one => omega
  case h_3 => rfl

/-! ### The low word of an entry as software reads it (R210) -/

theorem getLsbD_setBit {n : Nat} (w : BitVec n) (i : Nat) (b : Bool) {j : Nat} (hj : j < n) :
    (setBit w i b).getLsbD j = if j = i then b else w.getLsbD j := by
  cases b <;> by_cases same : j = i <;> simp [setBit, hj, same] <;> omega

theorem getLsbD_lowWord (e : Word64) {b : Nat} (h : b < 32) : (lowWord e).getLsbD b = e.getLsbD b := by
  simp [lowWord, h]

theorem triggerOf_eq_edge (w : Word) : triggerOf w = .edge ↔ w.getLsbD 15 = false := by
  unfold triggerOf
  split <;> simp_all

theorem getLsbD_readEntryLow (e : Word64) {b : Nat} (h : b < 32) :
    (readEntryLow e).getLsbD b = (e.getLsbD b && (b != 14 || e.getLsbD 15)) := by
  simp only [readEntryLow, triggerOf_eq_edge, getLsbD_lowWord e (show 15 < 32 by omega)]
  cases e.getLsbD 15 with
  | true => simp [getLsbD_lowWord e h]
  | false =>
    rw [if_pos rfl, getLsbD_setBit _ _ _ h, getLsbD_lowWord e h, remoteIrrBit]
    by_cases irr : b = 14 <;> simp [irr]

/-- Settles O35: every indirect row is one read of its index. -/
theorem indirectReads : Obligations.IndirectReads := by
  intro s p n k kn j x sel reach empty ready reserved direct
  have named {i : Byte} {w : Word} := indexAccess_read_some (i := i) (w := w) reach empty ready
  have low (e : Fin 16) := named (indexRead_entryLow e kn.iou)
  have high (e : Fin 16) := named (indexRead_entryHigh e kn.iou)
  have lower : j.toNat < 16 := by omega
  have upper : 8 + j.toNat < 16 := by omega
  refine ⟨s.selectedReceived p n, fun i w => rfl, named rfl, named rfl,
    ⟨readEntryLow kn.iou.rt[j.toNat], readEntryLow kn.iou.rt[8 + j.toNat], ?low0To7, ?low8To15, fun b hb =>
      ⟨getLsbD_readEntryLow _ hb, getLsbD_readEntryLow _ hb⟩⟩, ?high0To7, ?high8To15, ?reservedIndex, ?reservedDirect⟩
  case low0To7 => exact (congrArg (indexAccess p n · .read s) (rtIndex_low0To7 j)).trans (low ⟨_, lower⟩)
  case low8To15 =>
    rw [show 0x20 + 2 * j.toNat = 0x10 + 2 * (8 + j.toNat) by omega]
    exact (congrArg (indexAccess p n · .read s) (rtIndex_low8To15 j)).trans (low ⟨_, upper⟩)
  case high0To7 => exact (congrArg (indexAccess p n · .read s) (rtIndex_high0To7 j)).trans (high ⟨_, lower⟩)
  case high8To15 =>
    rw [show 0x21 + 2 * j.toNat = 0x11 + 2 * (8 + j.toNat) by omega]
    exact (congrArg (indexAccess p n · .read s) (rtIndex_high8To15 j)).trans (high ⟨_, upper⟩)
  case reservedIndex => exact indexAccess_read_none reach empty ready (indexRead_of_reserved reserved _)
  case reservedDirect =>
    calc ioAccess p n sel .read s
      _ = .next (returnRead s p (ioRead sel kn.iou)) := ioAccess_read reach empty ready sel
      _ = .next (returnData { s with fresh := s.fresh + 1 } p (Config.freeWord s.fresh)) := by
          rw [ioRead_of_reserved direct, returnRead]
      _ = .next { s.received p k (Config.freeWord s.fresh) with fresh := s.fresh + 1 } := by
          rw [returnData_of (s := { s with fresh := s.fresh + 1 }) reach.present]; rfl

end Sys2Proof.Machine
end


section
/-!
PROOFS. Sources of a package's own: the local interrupt sources and the timer (R58, R180, R184), and the steps of its processor
(R20, R22, R90).
-/

namespace Sys2Proof.Machine

/-! ### A local source fires (R180) -/

theorem meaningful_extInt (w : Word) : meaningful .extInt (triggerOf w) = !w.getLsbD 15 := by
  unfold triggerOf
  split <;> simp_all [meaningful]

theorem meaningful_nmi (w : Word) : meaningful .nmi (triggerOf w) = w.getLsbD 15 := by
  unfold triggerOf
  split <;> simp_all [meaningful]

/-- The codes R180 gives no meaning to in the Local Vector Table, two of which name no mode at all. -/
def noLocalModes : List (BitVec 3) := [0b001#3, 0b010#3, 0b011#3, 0b101#3, 0b110#3]

section
variable {s : State} {p : Nat} {k : Package} (x : LvtEntry) (u : LocalUnit)

theorem injectLocal_masked (present : s.packages[p]? = some k) (masked : (lvtOf x u).getLsbD 16 = true) (lvl : Bool) :
    injectLocal p x lvl (s.putLocal p k u) = .next (s.putLocal p k u) := by
  rw [injectLocal, withPackage_of _ (putLocal_get_same present u)]
  exact if_pos masked

/-- What an unmasked source does is decided by the code of its delivery mode. -/
theorem injectLocal_unmasked (present : s.packages[p]? = some k) (unmasked : (lvtOf x u).getLsbD 16 = false) (lvl : Bool) :
    injectLocal p x lvl (s.putLocal p k u) =
      match deliveryModeOf (modeCodeOf (lvtOf x u)) with
      | some .fixed => .next (s.putLocal p k (acceptFixed (vectorOf (lvtOf x u)) (sourceTrigger x (lvtOf x u)) lvl
          (mirrorRemoteIrr x lvl u)))
      | some .extInt =>
        if (lvtOf x u).getLsbD 15 then .fault .deliveryTriggerCombination else .next (s.putLocal p k (acceptExtInt u))
      | some .nmi =>
        if (lvtOf x u).getLsbD 15 then .next (s.putLocal p k (acceptNmi lvl u)) else .fault .deliveryTriggerCombination
      | _ => .fault .lvtDeliveryMode := by
  have present' := putLocal_get_same present u
  have notMasked : ¬maskedOf (lvtOf x u) = true := Bool.eq_false_iff.1 unmasked
  rw [injectLocal, withPackage_of _ present']
  simp only [notMasked, modifyLocal_of present', putLocal_put, meaningful_extInt, meaningful_nmi]
  cases (lvtOf x u).getLsbD 15 <;> rfl

theorem injectLocal_fixed (present : s.packages[p]? = some k) (unmasked : (lvtOf x u).getLsbD 16 = false)
    (code : (lvtOf x u).extractLsb' 8 3 = 0b000#3) (lvl : Bool) :
    injectLocal p x lvl (s.putLocal p k u) = .next (s.putLocal p k (acceptFixed (vectorOf (lvtOf x u))
      (sourceTrigger x (lvtOf x u)) lvl (mirrorRemoteIrr x lvl u))) := by
  rw [injectLocal_unmasked _ _ present unmasked, modeCodeOf, code]
  rfl

theorem injectLocal_extInt (present : s.packages[p]? = some k) (unmasked : (lvtOf x u).getLsbD 16 = false)
    (code : (lvtOf x u).extractLsb' 8 3 = 0b111#3) (lvl : Bool) :
    injectLocal p x lvl (s.putLocal p k u) =
      if (lvtOf x u).getLsbD 15 then .fault .deliveryTriggerCombination else .next (s.putLocal p k (acceptExtInt u)) := by
  rw [injectLocal_unmasked _ _ present unmasked, modeCodeOf, code]
  rfl

theorem injectLocal_nmi (present : s.packages[p]? = some k) (unmasked : (lvtOf x u).getLsbD 16 = false)
    (code : (lvtOf x u).extractLsb' 8 3 = 0b100#3) (lvl : Bool) :
    injectLocal p x lvl (s.putLocal p k u) =
      if (lvtOf x u).getLsbD 15 then .next (s.putLocal p k (acceptNmi lvl u)) else .fault .deliveryTriggerCombination := by
  rw [injectLocal_unmasked _ _ present unmasked, modeCodeOf, code]
  rfl

theorem injectLocal_noMode (present : s.packages[p]? = some k) (unmasked : (lvtOf x u).getLsbD 16 = false)
    (code : (lvtOf x u).extractLsb' 8 3 ∈ noLocalModes) (lvl : Bool) :
    injectLocal p x lvl (s.putLocal p k u) = .fault .lvtDeliveryMode := by
  rw [injectLocal_unmasked _ _ present unmasked, modeCodeOf]
  generalize (lvtOf x u).extractLsb' 8 3 = c at code
  simp only [noLocalModes, List.mem_cons, List.not_mem_nil, or_false] at code
  obtain rfl | rfl | rfl | rfl | rfl := code <;> rfl

end

/-! ### The timer (R58, R184) -/

section
variable {s : State} {p : Nat} {k : Package}

theorem timerTick_zero (present : s.packages[p]? = some k) (usable : k.needsReset = false) (zero : k.lu.timerCur = 0#32) :
    timerTick p s = .next s := by
  rw [timerTick, functional_of _ present usable]
  exact if_pos (.inr zero)

theorem timerTick_counts (present : s.packages[p]? = some k) (usable : k.needsReset = false) (released : k.resetPin = false)
    (counting : k.lu.timerCur ≠ 0#32) :
    timerTick p s =
      if k.lu.timerCur = 1#32 then injectLocal p .timer true (s.putLocal p k { k.lu with timerCur := countedDown k.lu })
      else .next (s.putLocal p k { k.lu with timerCur := countedDown k.lu }) := by
  have runs : ¬(k.resetPin = true ∨ k.lu.timerCur = 0#32) := by simp [released, counting]
  rw [timerTick, functional_of _ present usable]
  simp only [runs, if_false, modifyLocal_of present]

/-- A count above 1 only goes down. -/
theorem timerTick_above (present : s.packages[p]? = some k) (usable : k.needsReset = false) (released : k.resetPin = false)
    (above : 1 < k.lu.timerCur.toNat) :
    timerTick p s =
      .next (s.putLocal p k { k.lu with timerCur := BitVec.ofNat 32 (k.lu.timerCur.toNat - 1) }) := by
  have notZero : k.lu.timerCur ≠ 0#32 := by bv_omega
  have notOne : k.lu.timerCur ≠ 1#32 := by bv_omega
  have down : k.lu.timerCur - 1#32 = BitVec.ofNat 32 (k.lu.timerCur.toNat - 1) := by bv_omega
  rw [timerTick_counts present usable released notZero, if_neg notOne, countedDown, if_neg notOne, down]

/-- The unit at the step from 1, before its entry is injected: reloaded in periodic mode. -/
def LocalUnit.expired (u : LocalUnit) : LocalUnit :=
  { u with timerCur := if u.lvtTimer.getLsbD 17 then u.timerInit else 0#32 }

theorem timerTick_one (present : s.packages[p]? = some k) (usable : k.needsReset = false) (released : k.resetPin = false)
    (one : k.lu.timerCur = 1#32) : timerTick p s = injectLocal p .timer true (s.putLocal p k k.lu.expired) := by
  have notZero : k.lu.timerCur ≠ 0#32 := by rw [one]; decide
  rw [timerTick_counts present usable released notZero, if_pos one, countedDown, if_pos one]
  rfl

end

/-- Settles O42: the three ranges of the count, and at the step from 1 what R180 has the entry do. -/
theorem timerCounts : Obligations.TimerCounts := by
  intro s p k r present usable released
  have present' : ({ s with input := r } : State).packages[p]? = some k := present
  simp only [onEvent_eq, runEvent]
  refine ⟨timerTick_zero present' usable, timerTick_above present' usable released, fun one => ?_⟩
  have tick := timerTick_one present' usable released one
  refine ⟨fun masked => ?masked,
    fun unmasked => ⟨fun code => ?fixed, fun code => ?extInt, fun code => ?nmi, fun code => ?noMode⟩⟩
  all_goals rw [tick]
  case masked => exact injectLocal_masked .timer k.lu.expired present' masked true
  case fixed => exact injectLocal_fixed .timer k.lu.expired present' unmasked code true
  case extInt => exact injectLocal_extInt .timer k.lu.expired present' unmasked code true
  case nmi => exact injectLocal_nmi .timer k.lu.expired present' unmasked code true
  case noMode => exact injectLocal_noMode .timer k.lu.expired present' unmasked code true

/-! ### Steps of a processor's own (R20, R22, R90) -/

section
variable {s : State} {p : Nat} {k : Package}

theorem setFirstReset_of (present : s.packages[p]? = some k) (b : Bool) :
    setFirstReset p b s = .next (s.putPackage p { k with firstReset := b }) := by
  rw [setFirstReset, withPackage_of _ present, modifyPackage_of present]

theorem ProcessorHeld.setIntrEnabled (h : ProcessorHeld s p k) (b : Bool) : setIntrEnabled p b s = .next s := by
  rw [Machine.setIntrEnabled, withProcessor_of _ h.present h.wired, if_pos h.held]

theorem ProcessorHeld.setPageUncached (h : ProcessorHeld s p k) (b : Bool) : setPageUncached p b s = .next s := by
  rw [Machine.setPageUncached, withProcessor_of _ h.present h.wired, if_pos h.held]

theorem ProcessorHeld.cpuStep (h : ProcessorHeld s p k) : cpuStep p s = .next s := by
  rw [Machine.cpuStep, withProcessor_of _ h.present h.wired, if_pos h.held]

theorem setIntrEnabled_running (present : s.packages[p]? = some k) (wired : k.hasCpu = true) (running : cpuHeld k = false)
    (b : Bool) :
    setIntrEnabled p b s = .next (s.putPackage p { k with cpu := { k.cpu with intrEnabled := b } }) := by
  rw [setIntrEnabled, withProcessor_of _ present wired, if_neg (by simp [running]), modifyCpu_of present]

theorem setPageUncached_running (present : s.packages[p]? = some k) (wired : k.hasCpu = true) (running : cpuHeld k = false)
    (b : Bool) :
    setPageUncached p b s = .next (s.putPackage p { k with cpu := { k.cpu with pageUncached := b } }) := by
  rw [setPageUncached, withProcessor_of _ present wired, if_neg (by simp [running]), modifyCpu_of present]

theorem cpuStep_running (present : s.packages[p]? = some k) (wired : k.hasCpu = true) (running : cpuHeld k = false) :
    cpuStep p s = .next (issue p (Config.cpuIssues (cpuSample k s.fresh))
      { s.putPackage p { k with cpu := { k.cpu with core := Config.cpuNext (cpuSample k s.fresh) } } with
        fresh := s.fresh + 1 }) := by
  rw [cpuStep, withProcessor_of _ present wired, if_neg (by simp [running])]
  simp only [modifyCpu_of (s := { s with fresh := s.fresh + 1 }) present]
  rfl

end

/-- What a processor issues changes the schedule only: it comes first, a cycle at the port of its space. -/
theorem issue_eq (p : Nat) (a : Option CpuAction) (s : State) :
    issue p a s = { s with
      input :=
        match a with
        | none => s.input
        | some (.cycle .memory w acc addr) => .op ⟨.bus, p, 0, w, acc, addr, []⟩ :: s.input
        | some (.cycle .io w acc addr) => .op ⟨.ioSpace, p, 0, w, acc, addr, []⟩ :: s.input
        | some .acknowledge => .event (.intaFirst p) :: s.input
        | some (.maskInterrupts b) => .event (.setIntrEnabled p b) :: s.input
        | some (.mapPage b) => .event (.setPageUncached p b) :: s.input } := by
  cases a with
  | none => rfl
  | some a =>
    cases a with
    | cycle sp _ _ _ => cases sp <;> rfl
    | acknowledge | maskInterrupts _ | mapPage _ => rfl

/-- Settles O45: a held processor does nothing; one that runs changes its own state, and what it issues comes first. -/
theorem processorSteps : Obligations.ProcessorSteps := by
  intro s p k r present wired
  have present' : ({ s with input := r } : State).packages[p]? = some k := present
  refine ⟨fun b => setFirstReset_of present' b, fun hold b e mem => ?held, fun running b => ⟨?mask, ?page⟩,
    fun running => ?step⟩
  case held =>
    have h : ProcessorHeld { s with input := r } p k := ⟨present, wired, hold⟩
    simp only [List.mem_cons, List.not_mem_nil, or_false] at mem
    obtain rfl | rfl | rfl := mem
    · exact h.cpuStep
    · exact h.setIntrEnabled b
    · exact h.setPageUncached b
  case mask => exact setIntrEnabled_running present' wired running b
  case page => exact setPageUncached_running present' wired running b
  case step => exact (cpuStep_running present' wired running).trans (congrArg _ (issue_eq ..))

end Sys2Proof.Machine
end


section
/-!
PROOFS. The ICC bus: which message it takes (R160), and that it carries none while two units on it have one ID (R370).
-/

namespace Sys2Proof.Machine

/-! ### Arbitration (R160, R368) -/

theorem source_of_sourcePackage (m : Message) :
    m.source = .local (sourcePackage m) ∨ ∃ j, m.source = .io (sourcePackage m) j := by
  unfold sourcePackage
  match m.source with
  | .local p => exact .inl rfl
  | .io n j => exact .inr ⟨j, rfl⟩

/-- The sender of `m` may act if no package that `m` comes from must be reset. -/
theorem senderUntrusted_eq_false {s : State} {m : Message}
    (usable : ∀ (q : Nat) (k : Package), s.packages[q]? = some k → m.source = .local q ∨ (∃ j, m.source = .io q j) →
      k.needsReset = false) : senderUntrusted m s = false := by
  unfold senderUntrusted
  cases sender : s.packages[sourcePackage m]? with
  | none => rfl
  | some k => exact usable _ k sender (source_of_sourcePackage m)

theorem arbitrate_free {s : State} {l r : List Message} {m : Message} (queue : s.icc.queue = l ++ m :: r)
    (free : s.icc.carried = none) (trusted : senderUntrusted m s = false) :
    arbitrate l.length s = .next { s with icc := ⟨l ++ r, some m⟩ } := by
  have wins : s.icc.queue[l.length]? = some m := by simp [queue]
  have others : s.icc.queue.eraseIdx l.length = l ++ r := by
    rw [queue, List.eraseIdx_append_of_length_le le_rfl, Nat.sub_self, List.eraseIdx_cons_zero]
  simp [arbitrate, free, wins, trusted, others]

theorem arbitrate_busy {s : State} {x : Message} (busy : s.icc.carried = some x) (i : Nat) :
    arbitrate i s = .next s := by
  rw [arbitrate, busy]

/-! ### Unique IDs (R370, U13) -/

/-- The IDs that package `q`, `k`, brings to the bus while `m` is carried in `s`. -/
abbrev State.idsOf (s : State) (m : Message) (q : Nat) (k : Package) : List Byte :=
  busIds m.source (s.icc.queue.map Message.source) q k

theorem deliverCarried_duplicate {s : State} {m : Message} (carried : s.icc.carried = some m)
    (duplicate : ¬(idsInUse m s).Nodup) (choice : List Nat) :
    deliverCarried choice s = .refused .duplicateUnitId := by
  simp only [deliverCarried, carried, duplicate, decide_false]
  rfl

/-- Where the IDs are unique no package brings the sender's, and no two bring one. -/
theorem idsInUse_nodup_iff {s : State} {m : Message} :
    (idsInUse m s).Nodup ↔
      (∀ l ∈ s.packages.mapIdx (s.idsOf m), m.srcId ∉ l) ∧ (s.packages.mapIdx (s.idsOf m)).flatten.Nodup := by
  change (m.srcId :: (s.packages.mapIdx (s.idsOf m)).flatten).Nodup ↔ _
  simp only [List.nodup_cons, List.mem_flatten, not_exists, not_and]

theorem idsOf_mem {s : State} {m : Message} {q : Nat} {k : Package} (present : s.packages[q]? = some k) :
    s.idsOf m q k ∈ s.packages.mapIdx (s.idsOf m) :=
  List.mem_of_getElem? (i := q) (by rw [List.getElem?_mapIdx, present]; rfl)

theorem not_nodup_of_senderId {s : State} {m : Message} {q : Nat} {k : Package} (present : s.packages[q]? = some k)
    (brings : m.srcId ∈ s.idsOf m q k) : ¬(idsInUse m s).Nodup := fun unique =>
  (idsInUse_nodup_iff.1 unique).1 _ (idsOf_mem present) brings

theorem disjoint_idsOf {s : State} {m : Message} (unique : (idsInUse m s).Nodup) {q q' : Nat} {k k' : Package}
    (present : s.packages[q]? = some k) (present' : s.packages[q']? = some k') (lt : q < q') :
    (s.idsOf m q k).Disjoint (s.idsOf m q' k') := by
  obtain ⟨-, apart⟩ := List.nodup_flatten.1 (idsInUse_nodup_iff.1 unique).2
  obtain ⟨hq, rfl⟩ := List.getElem?_eq_some_iff.1 present
  obtain ⟨hq', rfl⟩ := List.getElem?_eq_some_iff.1 present'
  have pair := List.pairwise_iff_getElem.1 apart q q' (List.length_mapIdx.symm ▸ hq)
    (List.length_mapIdx.symm ▸ hq') lt
  rwa [List.getElem_mapIdx, List.getElem_mapIdx] at pair

theorem not_nodup_of_common {s : State} {m : Message} {q q' : Nat} {k k' : Package} {x : Byte}
    (present : s.packages[q]? = some k) (present' : s.packages[q']? = some k') (distinct : q ≠ q')
    (brings : x ∈ s.idsOf m q k) (brings' : x ∈ s.idsOf m q' k') : ¬(idsInUse m s).Nodup := fun unique => by
  obtain lt | lt := Nat.lt_or_gt_of_ne distinct
  · exact disjoint_idsOf unique present present' lt brings brings'
  · exact disjoint_idsOf unique present' present lt brings' brings

/-! ### Which units use the bus (log 18) -/

theorem fromIo_eq_true {q : Nat} {x : Source} : fromIo q x = true ↔ ∃ j, x = .io q j := by
  match x with
  | .local p => simp [fromIo]
  | .io n j => simp [fromIo]

/-- A local unit that is not the sender's brings its ID if it is enabled and not held, or if it has a message waiting. -/
theorem localId_mem {s : State} {m : Message} {q : Nat} {k : Package} (other : m.source ≠ .local q)
    (uses : (k.hasCpu = true ∧ k.resetPin = false ∧ k.lu.svr.getLsbD 8 = true) ∨ ∃ x ∈ s.icc.queue, x.source = .local q) :
    k.lu.id.extractLsb' 24 8 ∈ s.idsOf m q k :=
  mem_busIds.2 (.inl ⟨uses.imp_right List.mem_map.2, other, rfl⟩)

/-- An I/O unit that is not the sender's brings its ID if an entry is unmasked, or if it has a message waiting. -/
theorem ioId_mem {s : State} {m : Message} {q : Nat} {k : Package} (other : ∀ j, m.source ≠ .io q j)
    (uses : (∃ j, (k.iou.rt.get j).getLsbD 16 = false) ∨ ∃ x ∈ s.icc.queue, ∃ j, x.source = .io q j) :
    k.iou.id.extractLsb' 24 8 ∈ s.idsOf m q k := by
  refine mem_busIds.2 (.inr ⟨uses.imp ?unmasked ?waits, ?other, rfl⟩)
  case unmasked =>
    rintro ⟨j, zero⟩
    exact ⟨_, Vector.mem_toList_iff.2 (Vector.getElem_mem j.isLt), (getLsbD_lowWord _ (by omega)).trans zero⟩
  case waits =>
    rintro ⟨x, mem, sends⟩
    exact ⟨_, List.mem_map_of_mem mem, fromIo_eq_true.2 sends⟩
  case other =>
    rw [Bool.eq_false_iff, ne_eq, fromIo_eq_true]
    exact fun ⟨j, sender⟩ => other j sender

/-- Settles O26: the bus takes the winner when it is free; two users with one ID make a duplicate in the list of IDs. -/
theorem arbitration : Obligations.Arbitration := by
  refine ⟨fun s l r m rest queue => ⟨fun free usable => ?free, fun x i busy => ?busy⟩,
    fun s m choice r q k carried present => ⟨fun ⟨other, uses⟩ same => ?sender, fun other uses same => ?io,
      fun q' k' present' distinct ⟨other, uses⟩ ⟨other', uses'⟩ same => ?pair⟩⟩
  case free => exact arbitrate_free (s := { s with input := rest }) queue free (senderUntrusted_eq_false usable)
  case busy => exact arbitrate_busy (s := { s with input := rest }) busy i
  case sender =>
    exact deliverCarried_duplicate (s := { s with input := r }) carried
      (not_nodup_of_senderId present (same ▸ localId_mem other uses)) choice
  case io =>
    exact deliverCarried_duplicate (s := { s with input := r }) carried
      (not_nodup_of_senderId present (same ▸ ioId_mem other uses)) choice
  case pair =>
    exact deliverCarried_duplicate (s := { s with input := r }) carried
      (not_nodup_of_common present present' distinct (localId_mem other uses) (same ▸ localId_mem other' uses')) choice

end Sys2Proof.Machine
end


section
/-!
PROOFS. What a register write, a command and an input pin can do to the packages (R101, R170, R180, R201): they change registers of
the units and nothing else of a package, and every such change keeps the invariant of a unit. The invariant of the machine (R39 to
R54) and the order in which a write buffer drains (R88) both rest on it.
-/

namespace Sys2Proof.Machine

/-! ### Postconditions of an outcome -/

/-- `P` holds of the next state, if `r` gives one. -/
def Ensures (r : Res) (P : State → Prop) : Prop := ∀ t, r = .next t → P t

section
variable {s : State} {r : Res} {P Q : State → Prop}

theorem ensures_next (h : P s) : Ensures (.next s) P := by
  rintro _ ⟨⟩
  exact h

theorem ensures_fault (e : Fault) : Ensures (.fault e) P := by
  rintro _ ⟨⟩

theorem ensures_refused (e : Refusal) : Ensures (.refused e) P := by
  rintro _ ⟨⟩

theorem Ensures.imp (h : Ensures r P) (hpq : ∀ t, P t → Q t) : Ensures r Q := fun t ht => hpq t (h t ht)

theorem ensures_andThen {f : State → Res} (h : Ensures r P) (hf : ∀ t, P t → Ensures (f t) Q) :
    Ensures (andThen r f) Q := by
  intro t ht
  obtain ⟨t₁, h₁, h₂⟩ := andThen_eq_next ht
  exact hf t₁ (h t₁ h₁) t h₂

theorem ensures_ite {c : Prop} [Decidable c] {r' : Res} (yes : c → Ensures r P) (no : ¬c → Ensures r' P) :
    Ensures (if c then r else r') P := by
  split
  · exact yes ‹_›
  · exact no ‹_›

theorem ensures_withPackage {p : Nat} {f : Package → Res} (h : ∀ k, s.packages[p]? = some k → Ensures (f k) P) :
    Ensures (withPackage s p f) P := by
  intro t ht
  obtain ⟨k, present, hk⟩ := withPackage_eq_next ht
  exact h k present t hk

theorem ensures_functional {p : Nat} {f : Package → Res} (h : ∀ k, s.packages[p]? = some k → Ensures (f k) P) :
    Ensures (functional s p f) P := by
  intro t ht
  obtain ⟨k, present, -, hk⟩ := functional_eq_next ht
  exact h k present t hk

theorem ensures_withProcessor {p : Nat} {f : Package → Res} (h : ∀ k, s.packages[p]? = some k → Ensures (f k) P) :
    Ensures (withProcessor s p f) P := by
  intro t ht
  obtain ⟨k, present, -, hk⟩ := withProcessor_eq_next ht
  exact h k present t hk

end

/-! ### Words without a bit outside a mask (R48) -/

section
variable {n : Nat} {m x y : BitVec n}

theorem or_outside (hx : x &&& ~~~m = 0#n) (hy : y &&& ~~~m = 0#n) : (x ||| y) &&& ~~~m = 0#n := by
  rw [BitVec.and_comm, BitVec.and_or_distrib_left, BitVec.and_comm, hx, BitVec.and_comm, hy, BitVec.or_zero]

theorem and_outside (hx : x &&& ~~~m = 0#n) (y : BitVec n) : (x &&& y) &&& ~~~m = 0#n := by
  rw [BitVec.and_assoc, BitVec.and_comm y, ← BitVec.and_assoc, hx, BitVec.zero_and]

theorem and_mask_outside (hy : y &&& ~~~m = 0#n) (x : BitVec n) : (x &&& y) &&& ~~~m = 0#n := by
  rw [BitVec.and_comm x, and_outside hy]

theorem setBit_outside (hx : x &&& ~~~m = 0#n) {i : Nat} (hi : 1#n <<< i &&& ~~~m = 0#n) (b : Bool) :
    setBit x i b &&& ~~~m = 0#n := by
  cases b
  · exact and_outside hx _
  · exact or_outside hx hi

theorem self_outside : m &&& ~~~m = 0#n := by simp

/-- R101: a masked write leaves no bit but those of the two masks. -/
theorem writeMasked_outside (mask keep old v : BitVec n) :
    writeMasked mask keep old v &&& ~~~(mask ||| keep) = 0#n := by
  have apart : ~~~(mask ||| keep) = ~~~mask &&& ~~~keep := BitVec.not_or
  refine or_outside (and_mask_outside ?_ old) (and_mask_outside ?_ v)
  · rw [apart, BitVec.and_comm (~~~mask), ← BitVec.and_assoc, self_outside, BitVec.zero_and]
  · rw [apart, ← BitVec.and_assoc, self_outside, BitVec.zero_and]

end

theorem setReadStatus_outside {w : Word} (h : w &&& ~~~(icrMask ||| icrReadOnly) = 0#32) (c : BitVec 2) :
    setReadStatus w c &&& ~~~(icrMask ||| icrReadOnly) = 0#32 :=
  or_outside (and_outside h _) (and_mask_outside (by decide) _)

theorem pendingCommand_outside {w : Word} (h : w &&& ~~~(icrMask ||| icrReadOnly) = 0#32) (mode : DeliveryMode) :
    pendingCommand mode w &&& ~~~(icrMask ||| icrReadOnly) = 0#32 := by
  refine setBit_outside ?_ (by decide) true
  split
  · exact setReadStatus_outside h _
  · exact h

/-! ### Vectors 0 to 15 (R39 to R41) -/

theorem lowVectorsClear_iff (r : VectorSet) : LowVectorsClear r ↔ ∀ i < 16, r.getLsbD i = false := by
  constructor
  · intro h i hi
    have := congrArg (·.getLsbD i) h
    simpa [hi] using this
  · intro h
    apply BitVec.eq_of_getLsbD_eq
    intro i hi
    simpa [hi] using h i hi

theorem lowVectorsClear_setBit {r : VectorSet} (h : LowVectorsClear r) {v : Nat} {b : Bool} (hv : b = true → 16 ≤ v) :
    LowVectorsClear (setBit r v b) := by
  rw [lowVectorsClear_iff] at *
  intro i hi
  rw [getLsbD_setBit _ _ _ (by omega), h i hi]
  cases b with
  | false => simp
  | true =>
    have := hv rfl
    rw [if_neg (by omega)]

/-! ### Changes of a local unit -/

/-- What a write of a register, a command, a message that is not a Reset and an input do to a local unit: they keep its
invariant, its reset and the phase of an acknowledge, and take no request back. -/
structure LocalUnit.Step (u u' : LocalUnit) : Prop where
  inv : u.Inv → u'.Inv
  prst : u'.prst = u.prst
  phase : u'.intaPhase = u.intaPhase
  enabled : u.prst = true → Machine.enabled u' = Machine.enabled u
  extInta : (u.commit = .none → u.extInta = false) → u'.commit = .none → u'.extInta = false
  pint : u.Inv → u.pint = .high → u'.pint = .high

section
variable {u u' u'' : LocalUnit}

theorem LocalUnit.Step.refl (u : LocalUnit) : u.Step u := ⟨fun h => h, rfl, rfl, fun _ => rfl, fun h => h, fun _ h => h⟩

theorem LocalUnit.Step.trans (h : u.Step u') (h' : u'.Step u'') : u.Step u'' where
  inv := h'.inv ∘ h.inv
  prst := h'.prst.trans h.prst
  phase := h'.phase.trans h.phase
  enabled held := (h'.enabled (h.prst.trans held)).trans (h.enabled held)
  extInta := h'.extInta ∘ h.extInta
  pint hu := h'.pint (h.inv hu) ∘ h.pint hu

/-- A change of registers only. -/
theorem LocalUnit.Step.of_registers (inv : u.Inv → u'.Inv) (prst : u'.prst = u.prst := by rfl)
    (phase : u'.intaPhase = u.intaPhase := by rfl) (enabled : Machine.enabled u' = Machine.enabled u := by rfl)
    (commit : u'.commit = u.commit := by rfl) (extInta : u'.extInta = u.extInta := by rfl)
    (pint : u'.pint = u.pint := by rfl) : u.Step u' where
  inv := inv
  prst := prst
  phase := phase
  enabled _ := enabled
  extInta h hc := extInta.trans (h (commit.symm.trans hc))
  pint _ := pint.trans

end

/-- The part of a local unit's invariant that says nothing of the request for the processor. -/
structure LocalUnit.Core (u : LocalUnit) : Prop where
  isr : LowVectorsClear u.isr
  tmr : LowVectorsClear u.tmr
  irr : LowVectorsClear u.irr
  reserved : u.ReservedClear
  pnmi : u.pnmi = if enabled u then driven u.nmiOut else .z
  frozen : u.irrFrozen = true → u.intaPhase = .afterFirst
  genuine : u.intaGenuine = true → 16 ≤ u.intaVector.toNat

theorem LocalUnit.Inv.core {u : LocalUnit} (h : u.Inv) : u.Core := { h with }

theorem LocalUnit.Core.dispense {u : LocalUnit} (h : u.Core) : (dispense u).Core where
  isr := by simpa using h.isr
  tmr := by simpa using h.tmr
  irr := by simpa using h.irr
  reserved := by
    constructor <;> simp [h.reserved.id, h.reserved.tpr, h.reserved.svr, h.reserved.icrLow, h.reserved.lvtTimer,
      h.reserved.lvtLint0, h.reserved.lvtLint1]
  pnmi := by simpa using h.pnmi
  frozen := by simpa using h.frozen
  genuine := by simpa using h.genuine

/-- With PINT asserted a unit is enabled and has committed. -/
theorem LocalUnit.Inv.committed {u : LocalUnit} (h : u.Inv) (hp : u.pint = .high) : enabled u = true ∧ u.commit ≠ .none :=
  ⟨Bool.eq_true_of_not_eq_false fun off => by simp [h.pint.2 off] at hp, fun none => h.commit.1 none hp⟩

theorem LocalUnit.Inv.disabled {u : LocalUnit} (h : u.Inv) (off : enabled u = false) : u.commit = .none :=
  h.commit.2 (by simp [h.pint.2 off])

/-- R146 establishes the invariant of a unit that has committed to nothing. -/
theorem inv_dispense_of_core {u : LocalUnit} (core : u.Core) (none : u.commit = .none) : (dispense u).Inv := by
  have kept := core.dispense
  have same := dispense_enabled u
  obtain ⟨off, h⟩ | ⟨-, some, -⟩ | ⟨on, -, -, h⟩ | ⟨on, -, -, -, h⟩ | ⟨on, -, -, -, h⟩ := dispense_cases u
  · rw [off] at same
    rw [h] at kept same ⊢
    exact { kept with commit := by simp [none], pint := by simp [same], external := by simp [none],
                      internal := by simp [none] }
  · exact absurd none some
  all_goals
    rw [on] at same
    rw [h] at kept same ⊢
    exact { kept with commit := by simp [none], pint := by simp [same], external := by simp [none],
                      internal := by simp [none] }

theorem dispense_of_committed {u : LocalUnit} (on : enabled u = true) (some : u.commit ≠ .none) : dispense u = u := by
  obtain ⟨off, -⟩ | ⟨-, -, h⟩ | ⟨-, none, -⟩ | ⟨-, none, -⟩ | ⟨-, none, -⟩ := dispense_cases u
  · simp [on] at off
  · exact h
  all_goals exact absurd none some

theorem inv_dispense {u : LocalUnit} (h : u.Inv) : (dispense u).Inv := by
  by_cases none : u.commit = .none
  · exact inv_dispense_of_core h.core none
  · rw [dispense_of_committed (Bool.eq_true_of_not_eq_false fun off => none (h.disabled off)) none]
    exact h

/-- R146 leaves ExtINTA alone where it commits to nothing. -/
theorem dispense_extInta {u : LocalUnit} (h : u.commit = .none → u.extInta = false) (none : (dispense u).commit = .none) :
    (dispense u).extInta = false := by
  obtain ⟨-, e⟩ | ⟨-, -, e⟩ | ⟨-, -, -, e⟩ | ⟨-, -, -, -, e⟩ | ⟨-, -, -, -, e⟩ := dispense_cases u
  all_goals rw [e] at none ⊢
  case inr.inr.inr.inl => cases none
  all_goals exact h none

theorem step_dispense (u : LocalUnit) : u.Step (dispense u) where
  inv := inv_dispense
  prst := dispense_prst u
  phase := dispense_intaPhase u
  enabled _ := dispense_enabled u
  extInta := dispense_extInta
  pint h hp := by rw [dispense_of_committed (h.committed hp).1 (h.committed hp).2, hp]


/-- R141: only vectors from 16 on enter the IRR and the TMR. -/
theorem step_acceptFixed (v : Byte) (tr : TriggerMode) (lvl : Bool) (u : LocalUnit) : u.Step (acceptFixed v tr lvl u) := by
  unfold acceptFixed
  split
  case isTrue => exact .refl u
  case isFalse low =>
    have set {r : VectorSet} (h : LowVectorsClear r) (b : Bool) : LowVectorsClear (setBit r v.toNat b) :=
      lowVectorsClear_setBit h fun _ => Nat.le_of_not_lt low
    refine .trans ?_ (step_dispense _)
    match tr, lvl with
    | .edge, _ | .level, true =>
      exact .of_registers fun h => { h with reserved := { h.reserved with }, irr := set h.irr _, tmr := set h.tmr _ }
    | .level, false => exact .of_registers fun h => { h with reserved := { h.reserved with }, irr := set h.irr _ }

theorem step_acceptExtInt (u : LocalUnit) : u.Step (acceptExtInt u) :=
  have pending : u.Step { u with extIntPending := true } := .of_registers fun h => { h with reserved := { h.reserved with } }
  pending.trans (step_dispense _)

/-- R166: PNMI of a disabled unit is tri-stated already. -/
theorem step_acceptNmi (lvl : Bool) (u : LocalUnit) : u.Step (acceptNmi lvl u) := by
  refine .of_registers fun h => { h with reserved := { h.reserved with }, pnmi := ?_ }
  change (if enabled u then driven lvl else u.pnmi) = if enabled u then driven lvl else .z
  cases on : enabled u
  · simp [h.pnmi, on]
  · rfl

theorem step_endOfInterrupt (u : LocalUnit) : u.Step (endOfInterrupt u) := by
  unfold endOfInterrupt
  refine .trans ?_ (step_dispense _)
  split
  · exact .of_registers fun h => { h with reserved := { h.reserved with }, isr := lowVectorsClear_setBit h.isr nofun }
  · exact .refl u

theorem step_icrLow {u : LocalUnit} {w : Word} (hw : w &&& ~~~(icrMask ||| icrReadOnly) = 0#32) :
    u.Step { u with icrLow := w } :=
  .of_registers fun h => { h with reserved := { h.reserved with icrLow := hw } }

/-- What a Remote Read leaves in its sender (R172). -/
theorem step_readStatus (w : Word) (c : BitVec 2) (u : LocalUnit) :
    u.Step { u with remote := w, icrLow := setReadStatus u.icrLow c } :=
  .of_registers fun h => { h with reserved := { h.reserved with icrLow := setReadStatus_outside h.reserved.icrLow c } }

theorem step_mirrorRemoteIrr (x : LvtEntry) (lvl : Bool) (u : LocalUnit) : u.Step (mirrorRemoteIrr x lvl u) := by
  unfold mirrorRemoteIrr
  split
  · exact .refl u
  · split
    · exact .of_registers fun h =>
        { h with reserved := { h.reserved with lvtLint0 := setBit_outside h.reserved.lvtLint0 (by decide) _ } }
    · exact .refl u
  · split
    · exact .of_registers fun h =>
        { h with reserved := { h.reserved with lvtLint1 := setBit_outside h.reserved.lvtLint1 (by decide) _ } }
    · exact .refl u

theorem step_setLint (j : Lint) (x : InputPin) (u : LocalUnit) : u.Step (setLint j x u) := by
  cases j <;> exact .of_registers fun h => { h with reserved := { h.reserved with } }

/-- A write of the SVR that leaves the enable bit as it was. -/
theorem step_svr {u : LocalUnit} {w : Word} (hw : w &&& ~~~svrMask = 0#32) (same : svrEnable w = enabled u) :
    u.Step { u with svr := w } :=
  .of_registers (enabled := same) fun h =>
    { h with
      reserved := { h.reserved with svr := hw }
      pint := by rw [show enabled { u with svr := w } = enabled u from same]; exact h.pint
      pnmi := by rw [show enabled { u with svr := w } = enabled u from same]; exact h.pnmi }

/-- R140: a unit that is enabled had committed to nothing; its PNMI follows NMI_OUT from then on. -/
theorem step_enable {u : LocalUnit} {w : Word} (released : u.prst = false) (hw : w &&& ~~~svrMask = 0#32)
    (off : enabled u = false) (on : svrEnable w = true) :
    u.Step (dispense { u with svr := w, pnmi := driven u.nmiOut }) where
  inv h := by
    refine inv_dispense_of_core { h with reserved := { h.reserved with svr := hw }, pnmi := ?_ } (h.disabled off)
    exact (if_pos (show enabled { u with svr := w, pnmi := driven u.nmiOut } = true from on)).symm
  prst := by simp
  phase := by simp
  enabled held := by simp [released] at held
  extInta := dispense_extInta (u := { u with svr := w, pnmi := driven u.nmiOut })
  pint h asserted := by simp [(h.committed asserted).1] at off

/-- R140, U11: no write that is allowed disables the unit. -/
theorem step_storeSvr {u : LocalUnit} (v : Word) (released : u.prst = false)
    (allowed : ¬(enabled u = true ∧ svrEnable v = false)) : u.Step (storeSvr v u) := by
  have masked : (v &&& svrMask) &&& ~~~svrMask = 0#32 := and_mask_outside self_outside v
  have bit : svrEnable (v &&& svrMask) = svrEnable v := by simp [svrEnable, svrMask]
  have bit' : enabled { u with svr := v &&& svrMask } = svrEnable v := bit
  unfold storeSvr
  simp only [bit']
  cases on : svrEnable v with
  | false =>
    have off : enabled u = false := by simpa [on] using allowed
    exact step_svr masked (by rw [bit, on, off])
  | true =>
    cases off : enabled u with
    | true => exact (step_svr masked (by rw [bit, on, off])).trans (step_dispense _)
    | false => exact step_enable released masked off (bit.trans on)

/-! ### Changes of an I/O unit -/

/-- A change of an I/O unit that keeps its reserved bits 0. -/
abbrev IoUnit.Step (u u' : IoUnit) : Prop := u.Inv → u'.Inv

theorem lowWord_setBit (e : Word64) (i : Nat) (b : Bool) : lowWord (setBit e i b) = setBit (lowWord e) i b := by
  apply BitVec.eq_of_getLsbD_eq
  intro j hj
  rw [getLsbD_lowWord _ hj, getLsbD_setBit _ _ _ (by omega), getLsbD_setBit _ _ _ hj, getLsbD_lowWord _ hj]

theorem lowWord_joinWords (hi lo : Word) : lowWord (joinWords hi lo) = lo := BitVec.extractLsb'_append_eq_right

theorem step_setEntry {u : IoUnit} {k : Fin 16} {e : Word64}
    (he : u.Inv → lowWord e &&& ~~~(rtLowMask ||| entryReadOnly) = 0#32) : u.Step (setEntry k e u) := fun h =>
  { h with
    entries := fun j => by
      change lowWord ((u.rt.set k.val e k.isLt)[j.val]) &&& _ = _
      rw [Vector.getElem_set]
      split
      · exact he h
      · exact h.entries j }

theorem step_setPin (k : Fin 16) (x : InputPin) (u : IoUnit) : u.Step (setPin k x u) := fun h => { h with }

theorem step_setLevelSent (k : Fin 16) (b : Bool) (u : IoUnit) : u.Step (setLevelSent k b u) := fun h => { h with }

/-- R210: the delivery state and the remote IRR are the read-only bits of an entry. -/
theorem step_setEntryBit (k : Fin 16) {i : Nat} (bit : i = deliveryStateBit ∨ i = remoteIrrBit) (b : Bool) (u : IoUnit) :
    u.Step (setEntryBit k i b u) := by
  refine step_setEntry fun h => ?_
  rw [lowWord_setBit]
  refine setBit_outside (h.entries k) ?_ b
  obtain rfl | rfl := bit <;> decide

theorem step_storeEntryLow (k : Fin 16) (v : Word) (u : IoUnit) : u.Step (storeEntryLow k v u) := by
  have stored : u.Step (setEntry k (joinWords (highWord (u.rt.get k))
      (writeMasked rtLowMask entryReadOnly (lowWord (u.rt.get k)) v)) u) :=
    step_setEntry fun _ => by rw [lowWord_joinWords]; exact writeMasked_outside ..
  simp only [storeEntryLow]
  split
  · exact step_setPin _ _ _ ∘ stored
  · exact stored

theorem step_storeEntryHigh (k : Fin 16) (v : Word) (u : IoUnit) : u.Step (storeEntryHigh k v u) :=
  step_setEntry fun h => by rw [lowWord_joinWords]; exact h.entries k

theorem step_select (v : Word) (u : IoUnit) : u.Step { u with select := v &&& 0xFF#32 } := fun h =>
  { h with select := and_mask_outside self_outside v }

theorem step_ioId (v : Word) (u : IoUnit) : u.Step { u with id := v &&& idMask } := fun h =>
  { h with id := and_mask_outside self_outside v }

/-! ### Changes of the machine -/

/-- The package keeps everything but its two units, and they change as a `Step` lets them. -/
structure Package.UnitStep (k k' : Package) : Prop where
  rest : k' = { k with lu := k'.lu, iou := k'.iou }
  lu : k.lu.Step k'.lu
  iou : k.iou.Step k'.iou

theorem Package.UnitStep.refl (k : Package) : k.UnitStep k := ⟨rfl, .refl _, id⟩

theorem Package.UnitStep.trans {k k' k'' : Package} (h : k.UnitStep k') (h' : k'.UnitStep k'') : k.UnitStep k'' where
  rest := by rw [h'.rest, h.rest]
  lu := h.lu.trans h'.lu
  iou := h'.iou ∘ h.iou

/-- The machine keeps its platform and its schedule, and of every package everything but the units. -/
structure State.UnitStep (s t : State) : Prop where
  platform : t.platform = s.platform
  input : t.input = s.input
  packages : ∀ q : Nat, Option.Rel Package.UnitStep s.packages[q]? t.packages[q]?

section
variable {s t u : State}

theorem State.UnitStep.of_same (packages : t.packages = s.packages := by rfl) (platform : t.platform = s.platform := by rfl)
    (input : t.input = s.input := by rfl) : s.UnitStep t where
  platform := platform
  input := input
  packages q := by
    rw [packages]
    cases s.packages[q]? with
    | none => exact .none
    | some k => exact .some (.refl k)

theorem State.UnitStep.trans (h : s.UnitStep t) (h' : t.UnitStep u) : s.UnitStep u where
  platform := h'.platform.trans h.platform
  input := h'.input.trans h.input
  packages q := by
    have first := h.packages q
    have second := h'.packages q
    revert first second
    cases s.packages[q]? <;> cases t.packages[q]? <;> cases u.packages[q]? <;> rintro ⟨⟩ ⟨⟩
    · exact .none
    · exact .some (Package.UnitStep.trans ‹_› ‹_›)

theorem State.UnitStep.present {p : Nat} {k : Package} (h : s.UnitStep t) (present : s.packages[p]? = some k) :
    ∃ k', t.packages[p]? = some k' ∧ k.UnitStep k' := by
  have rel := h.packages p
  rw [present] at rel
  cases hk : t.packages[p]? with
  | none => rw [hk] at rel; cases rel
  | some k' =>
    rw [hk] at rel
    cases rel
    exact ⟨k', rfl, ‹_›⟩

theorem unitStep_modifyPackage {p : Nat} {f : Package → Package}
    (h : ∀ k, s.packages[p]? = some k → k.UnitStep (f k)) : s.UnitStep (modifyPackage s p f) where
  platform := rfl
  input := rfl
  packages q := by
    rw [modifyPackage_get]
    cases hk : s.packages[q]? with
    | none => split <;> exact .none
    | some k =>
      split
      case isTrue here =>
        subst here
        exact .some (h k hk)
      case isFalse => exact .some (.refl k)

theorem unitStep_modifyLocal {p : Nat} {f : LocalUnit → LocalUnit} (h : ∀ k, s.packages[p]? = some k → k.lu.Step (f k.lu)) :
    s.UnitStep (modifyLocal s p f) :=
  unitStep_modifyPackage fun k present => ⟨rfl, h k present, id⟩

theorem unitStep_modifyIo {n : Nat} {f : IoUnit → IoUnit} (h : ∀ u : IoUnit, u.Step (f u)) : s.UnitStep (modifyIo s n f) :=
  unitStep_modifyPackage fun k _ => ⟨rfl, .refl _, h k.iou⟩

theorem unitStep_sendMessage (s : State) (m : Message) : s.UnitStep (sendMessage s m) := .of_same

end

/-! ### Writes of a local unit register (R101) -/

section
variable {s : State} {p : Nat}

theorem ensures_same : Ensures (.next s) s.UnitStep := ensures_next .of_same

theorem ensures_modifyLocal {f : LocalUnit → LocalUnit} (h : ∀ k, s.packages[p]? = some k → k.lu.Step (f k.lu)) :
    Ensures (.next (modifyLocal s p f)) s.UnitStep := ensures_next (unitStep_modifyLocal h)

theorem ensures_localStore {f : LocalUnit → LocalUnit} (h : ∀ u : LocalUnit, u.Step (f u)) :
    Ensures (localStore p s f) s.UnitStep :=
  ensures_functional fun _ _ => ensures_ite (fun _ => ensures_same) fun _ => ensures_modifyLocal fun k _ => h k.lu

theorem ensures_localIgnore : Ensures (localIgnore p s) s.UnitStep := ensures_functional fun _ _ => ensures_same

theorem ensures_writeReserved : Ensures (writeReserved p s) s.UnitStep :=
  ensures_functional fun _ _ => ensures_ite (fun _ => ensures_same) fun _ => ensures_next .of_same

theorem ensures_writeId (v : Word) : Ensures (writeId p v s) s.UnitStep :=
  ensures_localStore fun _ => .of_registers fun h =>
    { h with reserved := { h.reserved with id := and_mask_outside self_outside v } }

theorem ensures_writeTpr (v : Word) : Ensures (writeTpr p v s) s.UnitStep :=
  ensures_localStore fun u =>
    have stored : u.Step { u with tpr := v &&& tprMask } := .of_registers fun h =>
      { h with reserved := { h.reserved with tpr := and_mask_outside self_outside v } }
    stored.trans (step_dispense _)

theorem ensures_writeEoi (v : Word) : Ensures (writeEoi p v s) s.UnitStep := ensures_localStore step_endOfInterrupt

theorem ensures_writeLdr (v : Word) : Ensures (writeLdr p v s) s.UnitStep :=
  ensures_localStore fun _ => .of_registers fun h => { h with reserved := { h.reserved with } }

theorem ensures_writeDfr (v : Word) : Ensures (writeDfr p v s) s.UnitStep :=
  ensures_localStore fun _ => .of_registers fun h => { h with reserved := { h.reserved with } }

theorem ensures_writeSvr (v : Word) : Ensures (writeSvr p v s) s.UnitStep :=
  ensures_functional fun k present => ensures_ite (fun _ => ensures_same) fun free =>
    ensures_ite (fun _ => ensures_fault _) fun allowed => ensures_modifyLocal fun k' present' => by
      obtain rfl : k = k' := Option.some.inj (present.symm.trans present')
      exact step_storeSvr v (by simp_all [unitHeld]) allowed

theorem ensures_writeIcrHigh (v : Word) : Ensures (writeIcrHigh p v s) s.UnitStep :=
  ensures_localStore fun _ => .of_registers fun h => { h with reserved := { h.reserved with } }

theorem ensures_writeLvtTimer (v : Word) : Ensures (writeLvtTimer p v s) s.UnitStep :=
  ensures_localStore fun _ => .of_registers fun h =>
    { h with reserved := { h.reserved with lvtTimer := writeMasked_outside .. } }

theorem ensures_writeLvtLint0 (v : Word) : Ensures (writeLvtLint0 p v s) s.UnitStep :=
  ensures_localStore fun _ => .of_registers fun h =>
    { h with reserved := { h.reserved with lvtLint0 := writeMasked_outside .. } }

theorem ensures_writeLvtLint1 (v : Word) : Ensures (writeLvtLint1 p v s) s.UnitStep :=
  ensures_localStore fun _ => .of_registers fun h =>
    { h with reserved := { h.reserved with lvtLint1 := writeMasked_outside .. } }

theorem ensures_writeTimerInit (v : Word) : Ensures (writeTimerInit p v s) s.UnitStep :=
  ensures_localStore fun _ => .of_registers fun h => { h with reserved := { h.reserved with } }

theorem ensures_writeTimerDiv (v : Word) : Ensures (writeTimerDiv p v s) s.UnitStep :=
  ensures_localStore fun _ => .of_registers fun h => { h with reserved := { h.reserved with } }

/-! ### Commands (R170 to R173) -/

theorem unitStep_storeIcrLow {w : Word} (hw : w &&& ~~~(icrMask ||| icrReadOnly) = 0#32) : s.UnitStep (storeIcrLow s p w) :=
  unitStep_modifyLocal fun _ _ => step_icrLow hw

theorem unitStep_storeRemote (v : Option Word) : s.UnitStep (storeRemote s p v) :=
  .trans (t := { s with fresh := remoteFresh s v }) .of_same (unitStep_modifyLocal fun _ _ => step_readStatus ..)

/-- A package that does not drive PRST is not released. -/
theorem releaseByMessage_of_released (released : ∀ k, s.packages[p]? = some k → k.lu.prst = false) :
    s.UnitStep (releaseByMessage s p) :=
  unitStep_modifyPackage fun k present => by simp [released k present, Package.UnitStep.refl]

/-- Item 5 of R171: the Reset that a unit sends to itself is a deassert, which does nothing to a unit that is not reset. -/
theorem unitStep_deliverSelf {u : LocalUnit} {m : Message} (released : ∀ k, s.packages[p]? = some k → k.lu.prst = false)
    (deassert : m.mode = .reset → m.level = false) : s.UnitStep (deliverSelf p u m s) := by
  unfold deliverSelf
  cases mode : m.mode with
  | fixed | lowestPriority => exact unitStep_modifyLocal fun _ _ => step_acceptFixed ..
  | extInt => exact unitStep_modifyLocal fun _ _ => step_acceptExtInt _
  | nmi => exact unitStep_modifyLocal fun _ _ => step_acceptNmi ..
  | reset =>
    simp only [deassert mode]
    exact releaseByMessage_of_released released
  | remoteRead => exact unitStep_storeRemote _

theorem unitStep_issueCommand {k : Package} {mode : DeliveryMode} {w : Word} (present : s.packages[p]? = some k)
    (released : k.lu.prst = false) (hw : w &&& ~~~(icrMask ||| icrReadOnly) = 0#32)
    (allowed : restricted mode w k.lu.icrHigh = false) : s.UnitStep (issueCommand p k.lu mode w s) := by
  unfold issueCommand
  split
  case isTrue self =>
    refine .trans (unitStep_storeIcrLow hw) (unitStep_deliverSelf (fun k' present' => ?released) fun reset => ?deassert)
    case released =>
      rw [storeIcrLow, modifyLocal_of present, putLocal_get_same present] at present'
      cases present'
      exact released
    case deassert =>
      obtain rfl : mode = .reset := reset
      change levelOf w = false
      simpa [restricted, self] using allowed
  case isFalse =>
    exact .trans (unitStep_storeIcrLow (pendingCommand_outside hw mode)) (unitStep_sendMessage ..)

theorem ensures_writeIcrLow (v : Word) : Ensures (writeIcrLow p v s) s.UnitStep :=
  ensures_functional fun k present => ensures_ite (fun _ => ensures_same) fun free =>
    ensures_ite (fun _ => ensures_fault _) fun _ => by
      have released : k.lu.prst = false := by simp_all [unitHeld]
      dsimp only
      split
      · exact ensures_fault _
      · rename_i mode _
        refine ensures_ite (fun _ => ensures_fault _) fun allowed => ensures_ite (fun _ => ensures_next ?_) fun _ => ensures_fault _
        exact unitStep_issueCommand present released (writeMasked_outside ..) (Bool.eq_false_iff.2 allowed)

/-- R101: whatever selector is written. -/
theorem ensures_localWrite (sel : BitVec 6) (v : Word) : Ensures (localWrite p sel v s) s.UnitStep := by
  unfold localWrite
  split
  · exact ensures_writeId v
  · exact ensures_localIgnore
  · exact ensures_writeTpr v
  · exact ensures_writeEoi v
  · exact ensures_localIgnore
  · exact ensures_writeLdr v
  · exact ensures_writeDfr v
  · exact ensures_writeSvr v
  · exact ensures_writeIcrLow v
  · exact ensures_writeIcrHigh v
  · exact ensures_writeLvtTimer v
  · exact ensures_writeLvtLint0 v
  · exact ensures_writeLvtLint1 v
  · exact ensures_writeTimerInit v
  · exact ensures_localIgnore
  · exact ensures_writeTimerDiv v
  · refine ensures_ite (fun _ => ensures_localIgnore) fun _ => ensures_ite (fun _ => ensures_localIgnore) fun _ => ?_
    exact ensures_ite (fun _ => ensures_localIgnore) fun _ => ensures_writeReserved

end

/-! ### Writes of an I/O unit register, and what it sends (R201, R206, R207) -/

section
variable {s : State} {n : Nat}

theorem ensures_ioSend (k : Fin 16) (lvl : Bool) (u : IoUnit) : Ensures (ioSend n k lvl u s) s.UnitStep := by
  unfold ioSend
  split
  · exact ensures_fault _
  · refine ensures_ite (fun _ => ensures_fault _) fun _ => ensures_ite (fun _ => ensures_next ?_) fun _ => ensures_fault _
    exact .trans (unitStep_modifyIo (step_setEntryBit k (.inl rfl) true)) (unitStep_sendMessage ..)

theorem ensures_followLevel (k : Fin 16) : Ensures (followLevel n k s) s.UnitStep :=
  ensures_withPackage fun _ _ => ensures_ite
    (fun _ => (ensures_ioSend k _ _).imp fun _ sent => (unitStep_modifyIo (step_setLevelSent k _)).trans sent)
    fun _ => ensures_same

theorem ensures_ioStore {f : State → Res} (h : Ensures (f s) s.UnitStep) : Ensures (ioStore n s f) s.UnitStep :=
  ensures_functional fun _ _ => ensures_ite (fun _ => ensures_same) fun _ => h

theorem ensures_indexWrite (i : Byte) (v : Word) : Ensures (indexWrite n i v s) s.UnitStep := by
  refine ensures_ite (fun _ => ensures_next (unitStep_modifyIo (step_ioId v))) fun _ =>
    ensures_ite (fun _ => ensures_same) fun _ => ensures_ite (fun _ => ensures_ite (fun _ => ?high) fun _ => ?low) fun _ =>
      ensures_next .of_same
  case high => exact ensures_next (unitStep_modifyIo (step_storeEntryHigh _ v))
  case low => exact (ensures_followLevel _).imp fun _ sent => (unitStep_modifyIo (step_storeEntryLow _ v)).trans sent

/-- R201: whatever selector is written. -/
theorem ensures_ioWrite (sel : BitVec 6) (v : Word) : Ensures (ioWrite n sel v s) s.UnitStep := by
  unfold ioWrite
  split
  · exact ensures_ioStore (ensures_next (unitStep_modifyIo (step_select v)))
  · exact ensures_ioStore (ensures_withPackage fun _ _ => ensures_indexWrite _ v)
  · exact ensures_ioStore (ensures_next .of_same)

theorem ensures_regWrite (p : Nat) (addr v : Word) : Ensures (regWrite p addr v s) s.UnitStep := by
  unfold regWrite
  split
  · exact ensures_localWrite _ v
  · exact ensures_ioWrite _ v
  · exact ensures_same

end

/-! ### Inputs and the timer (R58, R180 to R184, R206 to R208) -/

section
variable {s : State} {p n : Nat}

theorem ensures_injectLocal (x : LvtEntry) (lvl : Bool) : Ensures (injectLocal p x lvl s) s.UnitStep := by
  refine ensures_withPackage fun _ _ => ensures_ite (fun _ => ensures_same) fun _ => ?_
  split
  · exact ensures_modifyLocal fun _ _ => (step_mirrorRemoteIrr ..).trans (step_acceptFixed ..)
  · exact ensures_ite (fun _ => ensures_modifyLocal fun _ _ => step_acceptExtInt _) fun _ => ensures_fault _
  · exact ensures_ite (fun _ => ensures_modifyLocal fun _ _ => step_acceptNmi ..) fun _ => ensures_fault _
  · exact ensures_fault _

theorem ensures_injectLocal_after {f : LocalUnit → LocalUnit} (h : ∀ u : LocalUnit, u.Step (f u)) (x : LvtEntry) (lvl : Bool) :
    Ensures (injectLocal p x lvl (modifyLocal s p f)) s.UnitStep :=
  (ensures_injectLocal x lvl).imp fun _ fired => (unitStep_modifyLocal fun k _ => h k.lu).trans fired

theorem ensures_setLint (j : Lint) (x : InputPin) : Ensures (.next (modifyLocal s p (setLint j x))) s.UnitStep :=
  ensures_modifyLocal fun _ _ => step_setLint ..

theorem ensures_lintPin (j : Lint) (lvl : Bool) : Ensures (lintPin p j lvl s) s.UnitStep :=
  ensures_withPackage fun _ _ => ensures_ite (fun _ => ensures_setLint _ _) fun _ => ensures_ite (fun _ => ensures_setLint _ _)
    fun _ => ensures_ite (fun _ => ensures_same) fun _ => ensures_injectLocal_after (step_setLint _ _) _ _

theorem ensures_lintSample (j : Lint) : Ensures (lintSample p j s) s.UnitStep :=
  ensures_functional fun _ _ => ensures_ite
    (fun _ => ensures_ite (fun _ => ensures_injectLocal_after (step_setLint _ _) _ _) fun _ => ensures_setLint _ _)
    fun _ => ensures_same

theorem ensures_timerTick : Ensures (timerTick p s) s.UnitStep := by
  have counts (u : LocalUnit) : u.Step { u with timerCur := countedDown u } :=
    .of_registers fun h => { h with reserved := { h.reserved with } }
  exact ensures_functional fun _ _ => ensures_ite (fun _ => ensures_same) fun _ =>
    ensures_ite (fun _ => ensures_injectLocal_after counts _ _) fun _ => ensures_modifyLocal fun k _ => counts k.lu

theorem ensures_setPin (k : Fin 16) (x : InputPin) : Ensures (.next (modifyIo s n (setPin k x))) s.UnitStep :=
  ensures_next (unitStep_modifyIo (step_setPin k x))

theorem ensures_intPin (k : Fin 16) (lvl : Bool) : Ensures (intPin n k lvl s) s.UnitStep :=
  ensures_withPackage fun _ _ => ensures_ite (fun _ => ensures_setPin _ _) fun _ => ensures_ite (fun _ => ensures_setPin _ _)
    fun _ => (ensures_followLevel k).imp fun _ sent => (unitStep_modifyIo (step_setPin k _)).trans sent

theorem ensures_ioSample : Ensures (ioSample n s) s.UnitStep := by
  refine ensures_functional fun _ _ => ensures_ite (fun _ => ensures_same) fun _ => ?_
  split
  · exact ensures_same
  · refine ensures_ite (fun _ => ?_) fun _ => ensures_setPin _ _
    exact (ensures_ioSend _ _ _).imp fun _ sent => (unitStep_modifyIo (step_setPin _ _)).trans sent

end

end Sys2Proof.Machine
end


section
/-!
PROOFS. Every step keeps the invariant of the machine (R23, R39 to R54, R71, R81, R167, R233, R360). Register writes, commands and
inputs are changes of units (`State.UnitStep`); the acknowledge, the resets, the test access port, the processors and memory are
taken one by one.
-/

namespace Sys2Proof.Machine

/-! ### Changes that keep the invariant -/

theorem Package.UnitStep.inv {pf : Platform} {k k' : Package} (h : k.UnitStep k') (inv : k.Inv pf) : k'.Inv pf := by
  obtain ⟨rest, lu, iou⟩ := h
  rw [rest]
  exact
    { inv with
      lu := lu.inv inv.lu
      iou := iou inv.iou
      held := fun pin => lu.prst.trans (inv.held pin)
      reset := fun prst =>
        have was := lu.prst.symm.trans prst
        (lu.enabled was).trans (inv.reset was)
      extInta := fun pin => lu.extInta (inv.extInta pin) }

section
variable {s t : State}

theorem State.Inv.of_same (inv : s.Inv) (packages : t.packages = s.packages := by rfl)
    (platform : t.platform = s.platform := by rfl) : t.Inv := by
  refine ⟨fun p k present => ?_⟩
  rw [platform]
  exact inv.packages p k (packages ▸ present)

theorem State.UnitStep.inv (h : s.UnitStep t) (inv : s.Inv) : t.Inv := by
  refine ⟨fun q k' present => ?_⟩
  have rel := h.packages q
  rw [present] at rel
  cases hk : s.packages[q]? with
  | none => rw [hk] at rel; cases rel
  | some k =>
    rw [hk] at rel
    cases rel
    rw [h.platform]
    exact Package.UnitStep.inv ‹_› (inv.packages q k hk)

theorem Ensures.inv_of_unitStep {r : Res} (h : Ensures r s.UnitStep) (inv : s.Inv) : Ensures r State.Inv :=
  h.imp fun _ step => step.inv inv

theorem inv_modifyPackage {p : Nat} {f : Package → Package} (inv : s.Inv)
    (h : ∀ k, s.packages[p]? = some k → k.Inv s.platform → (f k).Inv s.platform) : (modifyPackage s p f).Inv := by
  refine ⟨fun q k present => ?_⟩
  rw [modifyPackage_get] at present
  split at present
  · subst p
    obtain ⟨k₀, present₀, rfl⟩ := Option.map_eq_some_iff.1 present
    exact h k₀ present₀ (inv.packages q k₀ present₀)
  · exact inv.packages q k present

/-- A processor may change in every way that leaves its write buffer in order. -/
theorem inv_modifyCpu {p : Nat} {f : Cpu → Cpu} (inv : s.Inv)
    (h : ∀ c : Cpu, BufferOk s.platform c.wbuf → BufferOk s.platform (f c).wbuf) : (modifyCpu s p f).Inv :=
  inv_modifyPackage inv fun k _ hk => { hk with wbuf := h k.cpu hk.wbuf }

theorem inv_returnData (inv : s.Inv) (p : Nat) (w : Word) : (returnData s p w).Inv := inv_modifyCpu inv fun _ h => h

theorem inv_returnRead (inv : s.Inv) (p : Nat) (v : Option Word) : (returnRead s p v).Inv := by
  cases v with
  | some w => exact inv_returnData inv p w
  | none => exact inv_returnData (s := { s with fresh := s.fresh + 1 }) inv.of_same p _

theorem inv_setBuffer (inv : s.Inv) (p : Nat) {l : List (Word × Word)} (h : BufferOk s.platform l) : (setBuffer s p l).Inv :=
  inv_modifyCpu inv fun _ _ => h

end

/-! ### The write buffer (R23, R85, R86) -/

theorem BufferOk.tail {pf : Platform} {w : Word × Word} {l : List (Word × Word)} (h : BufferOk pf (w :: l)) : BufferOk pf l :=
  ⟨Nat.le_of_succ_le h.1, fun x hx => h.2 x (List.mem_cons_of_mem _ hx)⟩

theorem BufferOk.post {pf : Platform} {l : List (Word × Word)} {addr v : Word} (h : BufferOk pf l)
    (room : l.length < Config.wbufDepth) (target : addressTarget pf .memory addr ≠ .outside) (offset : aligned addr = true) :
    BufferOk pf (l ++ [(addr, v)]) := by
  refine ⟨by simpa using room, fun x hx => ?_⟩
  obtain old | new := List.mem_append.1 hx
  · exact h.2 x old
  · obtain rfl := List.mem_singleton.1 new
    exact ⟨target, offset⟩

section
variable {s : State} {p : Nat}

theorem ensures_drainList {l : List (Word × Word)} (inv : s.Inv) (h : BufferOk s.platform l) :
    Ensures (drainList p l s) State.Inv := by
  induction l generalizing s with
  | nil => exact ensures_next inv
  | cons w r ih =>
    refine ensures_andThen (ensures_regWrite p w.1 w.2) fun t step => ih (step.inv (inv_setBuffer inv p h.tail)) ?_
    rw [step.platform]
    exact h.tail

theorem ensures_drainAll (inv : s.Inv) : Ensures (drainAll p s) State.Inv :=
  ensures_withPackage fun k present => ensures_drainList inv (inv.packages p k present).wbuf

theorem ensures_drainOne (inv : s.Inv) : Ensures (drainOne p s) State.Inv := by
  refine ensures_withProcessor fun k present => ensures_ite (fun _ => ensures_next inv) fun _ => ?_
  split
  · exact ensures_next inv
  · rename_i buffer
    have ok := (inv.packages p k present).wbuf
    rw [buffer] at ok
    exact (ensures_regWrite _ _ _).inv_of_unitStep (inv_setBuffer inv p ok.tail)

/-! ### Accesses of a processor (R80, R100, R101) -/

theorem ensures_postOrWrite {l : Location} {sel : BitVec 6} {v : Word} {posted : Bool} {wr : Word → State → Res} (inv : s.Inv)
    (target : l.space = .memory → addressTarget s.platform .memory (registerAddress l sel) ≠ .outside)
    (write : ∀ t : State, Ensures (wr v t) t.UnitStep) : Ensures (postOrWrite p l sel v posted wr s) State.Inv := by
  refine ensures_withPackage fun k present => ensures_ite (fun ⟨_, memory, room⟩ => ensures_next ?_) fun _ => ?_
  · exact inv_setBuffer inv p ((inv.packages p k present).wbuf.post room (target memory) (aligned_registerAddress ..))
  · exact ensures_andThen (ensures_drainAll inv) fun t inv' => (write t).inv_of_unitStep inv'

theorem ensures_registerAccess {l : Location} {sel : BitVec 6} {a : Access} {rd : State → Res} {wr : Word → State → Res}
    (inv : s.Inv) (target : l.space = .memory → addressTarget s.platform .memory (registerAddress l sel) ≠ .outside)
    (read : ∀ t : State, t.Inv → Ensures (rd t) State.Inv) (write : ∀ (v : Word) (t : State), Ensures (wr v t) t.UnitStep) :
    Ensures (registerAccess p l sel a rd wr s) State.Inv := by
  refine ensures_withProcessor fun k _ => ensures_ite (fun _ => ensures_next inv) fun _ =>
    ensures_ite (fun _ => ensures_refused _) fun _ => ?_
  cases a with
  | read => exact ensures_andThen (ensures_drainAll inv) read
  | write v posted => exact ensures_postOrWrite inv target (write v)

theorem ensures_localAccess {sel : BitVec 6} {a : Access} {rd : LocalUnit → Option Word} {wr : Nat → Word → State → Res}
    (inv : s.Inv) (write : ∀ (v : Word) (t : State), Ensures (wr p v t) t.UnitStep) :
    Ensures (localAccess p sel a rd wr s) State.Inv := by
  refine ensures_registerAccess inv (fun memory => ?_) (fun t inv' => ?_) write
  · rw [← memory, addressTarget_localRegister]
    nofun
  · exact ensures_functional fun _ _ => ensures_next (inv_returnRead inv' ..)

/-- The page of an I/O unit lies in no other place than a unit's. -/
theorem addressTarget_ioLocation {pf : Platform} {n : Nat} (hn : n < pf.ious.length) (sel : BitVec 6) :
    addressTarget pf (ioLocation pf n).space (registerAddress (ioLocation pf n) sel) ≠ .outside := by
  have found : pf.ious.findIdx? (fun l => l == ioLocation pf n) ≠ none := by
    simp [List.findIdx?_eq_none_iff, ioLocation_eq_getElem hn]
  simp only [addressTarget, locationOf_registerAddress]
  split
  · nofun
  · split
    · nofun
    · exact absurd ‹_› found

theorem ensures_ioAccess {n : Nat} {sel : BitVec 6} {a : Access} (inv : s.Inv) : Ensures (ioAccess p n sel a s) State.Inv := by
  by_cases hn : n < s.platform.ious.length
  · rw [ioAccess_of hn]
    refine ensures_registerAccess inv (fun memory => ?_) (fun t inv' => ?_) fun v t => ensures_ioWrite sel v
    · rw [← memory]
      exact addressTarget_ioLocation hn sel
    · exact ensures_functional fun _ _ => ensures_next (inv_returnRead inv' ..)
  · rw [ioAccess, List.getElem?_eq_none (Nat.le_of_not_lt hn)]
    exact ensures_fault _

theorem ensures_indexAccess {n : Nat} {i : Byte} {a : Access} (inv : s.Inv) : Ensures (indexAccess p n i a s) State.Inv :=
  ensures_andThen (ensures_ioAccess inv) fun _ inv' => ensures_ioAccess inv'

theorem ensures_commandAccess {w : Word} (inv : s.Inv) : Ensures (commandAccess p w s) State.Inv :=
  ensures_localAccess inv fun v _ => ensures_writeIcrLow v

end

/-! ### The acknowledge (R54, R320 to R322) -/

/-- A change of the local unit of a package that leaves PRST and the enable bit alone. -/
theorem inv_setLocal {pf : Platform} {k : Package} {u : LocalUnit} (inv : k.Inv pf) (hu : u.Inv) (prst : u.prst = k.lu.prst)
    (svr : u.svr = k.lu.svr) (extInta : k.resetPin = false → u.commit = .none → u.extInta = false) :
    ({ k with lu := u } : Package).Inv pf :=
  { inv with
    lu := hu
    held := fun pin => prst.trans (inv.held pin)
    reset := fun asserted => by
      change svrEnable u.svr = false
      rw [svr]
      exact inv.reset (prst.symm.trans asserted)
    extInta := extInta }

/-- R144: a vector that may be dispensed is above the levels 0. -/
theorem MayDispense.genuine {u : LocalUnit} {v : Byte} (h : MayDispense u v) : 16 ≤ v.toNat := by
  obtain ⟨-, -, positive, -⟩ := h
  omega

theorem inv_acknowledgeFirst {u : LocalUnit} (h : u.Inv) : (acknowledgeFirst u).Inv := by
  have frozen {w : Byte} {b : Bool} (genuine : b = true → 16 ≤ w.toNat) :
      ({ u with irrFrozen := true, intaVector := w, intaGenuine := b, intaPhase := .afterFirst } : LocalUnit).Inv :=
    { h with reserved := { h.reserved with }, frozen := fun _ => rfl, genuine := genuine }
  unfold acknowledgeFirst
  split
  · exact { h with reserved := { h.reserved with }, frozen := fun _ => rfl }
  · split
    · exact frozen fun _ => (dispensable_eq_some.1 ‹_›).genuine
    · exact frozen nofun
  · exact frozen nofun

theorem core_serveVector {u : LocalUnit} (h : u.Core) {v : Byte} (genuine : 16 ≤ v.toNat) : (serveVector v u).Core where
  isr := lowVectorsClear_setBit h.isr fun _ => genuine
  tmr := h.tmr
  irr := by
    simp only [serveVector]
    split
    · exact h.irr
    · exact lowVectorsClear_setBit h.irr nofun
  reserved := { h.reserved with }
  pnmi := h.pnmi
  frozen := h.frozen
  genuine := h.genuine

theorem inv_endAcknowledge {u : LocalUnit} (h : u.Core) : (endAcknowledge u).Inv :=
  inv_dispense_of_core { h with reserved := { h.reserved with }, frozen := nofun } rfl

theorem endAcknowledge_extInta {u : LocalUnit} (h : u.extInta = false) (none : (endAcknowledge u).commit = .none) :
    (endAcknowledge u).extInta = false :=
  dispense_extInta (u := { u with irrFrozen := false, intaPhase := .idle, pint := .low, commit := .none }) (fun _ => h) none

/-- The unit whose acknowledge ends: an external request is withdrawn, a genuine vector goes into service. -/
theorem acknowledgeSecond_cases (u : LocalUnit) :
    (u.commit = .external ∧ acknowledgeSecond u = endAcknowledge { u with extIntPending := false, extInta := false }) ∨
    (u.commit ≠ .external ∧ u.intaGenuine = true ∧ acknowledgeSecond u = endAcknowledge (serveVector u.intaVector u)) ∨
    (u.commit ≠ .external ∧ acknowledgeSecond u = endAcknowledge u) := by
  unfold acknowledgeSecond
  cases u.commit <;> cases u.intaGenuine <;> simp

theorem inv_acknowledgeSecond {u : LocalUnit} (h : u.Inv) : (acknowledgeSecond u).Inv := by
  obtain ⟨-, e⟩ | ⟨-, genuine, e⟩ | ⟨-, e⟩ := acknowledgeSecond_cases u <;> rw [e]
  · exact inv_endAcknowledge { h.core with reserved := { h.reserved with } }
  · exact inv_endAcknowledge (core_serveVector h.core (h.genuine genuine))
  · exact inv_endAcknowledge h.core

theorem acknowledgeSecond_extInta {u : LocalUnit} (h : u.Inv) (quiet : u.commit = .none → u.extInta = false)
    (none : (acknowledgeSecond u).commit = .none) : (acknowledgeSecond u).extInta = false := by
  have before (notExternal : u.commit ≠ .external) : u.extInta = false := by
    cases request : u.commit with
    | none => exact quiet request
    | external => exact absurd request notExternal
    | internal => exact h.internal request
  obtain ⟨-, e⟩ | ⟨notExternal, -, e⟩ | ⟨notExternal, e⟩ := acknowledgeSecond_cases u <;> rw [e] at none ⊢
  · exact endAcknowledge_extInta rfl none
  · exact endAcknowledge_extInta (u := serveVector u.intaVector u) (before notExternal) none
  · exact endAcknowledge_extInta (before notExternal) none

section
variable {s : State} {p : Nat}

theorem inv_modifyLocal_acknowledge {f : LocalUnit → LocalUnit} (inv : s.Inv) (hf : ∀ u : LocalUnit, u.Inv → (f u).Inv)
    (prst : ∀ u : LocalUnit, (f u).prst = u.prst) (svr : ∀ u : LocalUnit, (f u).svr = u.svr)
    (extInta : ∀ u : LocalUnit, u.Inv → (u.commit = .none → u.extInta = false) → (f u).commit = .none → (f u).extInta = false) :
    (modifyLocal s p f).Inv :=
  inv_modifyPackage inv fun _ _ hk =>
    inv_setLocal hk (hf _ hk.lu) (prst _) (svr _) fun pin => extInta _ hk.lu (hk.extInta pin)

theorem ensures_intaFirst (inv : s.Inv) : Ensures (intaFirst p s) State.Inv := by
  refine ensures_withProcessor fun _ _ => ensures_ite (fun _ => ?_) fun _ => ensures_next inv
  refine ensures_andThen (P := State.Inv) (ensures_ite (fun _ => ensures_drainAll inv) fun _ => ensures_next inv) fun t inv' => ?_
  refine ensures_functional fun _ _ => ensures_ite (fun _ => ensures_next inv') fun _ => ensures_next ?_
  refine inv_modifyLocal_acknowledge (inv_returnData (s := { t with fresh := t.fresh + 1 }) inv'.of_same p _)
    (fun _ => inv_acknowledgeFirst) acknowledgeFirst_prst acknowledgeFirst_svr fun u _ quiet => ?_
  simpa using quiet

theorem ensures_intaSecond (ext : Byte) (inv : s.Inv) : Ensures (intaSecond p ext s) State.Inv :=
  ensures_withProcessor fun _ _ => ensures_ite (fun _ => ensures_functional fun _ _ => ensures_next
    (inv_modifyLocal_acknowledge (inv_modifyCpu inv fun _ h => h) (fun _ => inv_acknowledgeSecond) acknowledgeSecond_prst
      acknowledgeSecond_svr fun _ => acknowledgeSecond_extInta)) fun _ => ensures_next inv

end

/-! ### The two resets of a local unit, and their end (R360, R361, R366) -/

theorem enabled_clearedLocal (unit : Byte) (u : LocalUnit) : enabled (clearedLocal unit u) = false :=
  enabled_cleared (idWord unit)

theorem inv_clearedLocal (unit : Byte) (u : LocalUnit) : (clearedLocal unit u).Inv :=
  have cleared := localUnitInv_cleared unit
  { cleared with reserved := { cleared.reserved with } }

theorem inv_hardwareResetLocal (pins : Byte) (u : LocalUnit) : (hardwareResetLocal pins u).Inv :=
  have cleared := inv_clearedLocal pins u
  { cleared with reserved := { cleared.reserved with }, external := nofun, internal := nofun }

theorem inv_softwareResetLocal (u : LocalUnit) : (softwareResetLocal u).Inv :=
  have cleared := inv_clearedLocal (unitIdOf u.id) u
  { cleared with reserved := { cleared.reserved with } }

/-- A unit in reset is disabled, and so has committed to nothing. -/
theorem inv_releasedLocal {u : LocalUnit} (h : u.Inv) (off : enabled u = false) : (releasedLocal u).Inv :=
  { h with
    reserved := { h.reserved with }
    external := fun external => by
      have none := h.disabled off
      simp [show u.commit = .external from external] at none
    internal := fun _ => rfl }

theorem inv_clearedIo (u : IoUnit) : (clearedIo u).Inv := { ioUnitInv_cleared with }

/-- R366: a processor that starts has an empty write buffer. -/
theorem inv_startedOnFall {pf : Platform} {k : Package} (inv : k.Inv pf) (old : Package) : (startedOnFall old k).Inv pf := by
  rw [startedOnFall_eq]
  refine { inv with wbuf := ?_ }
  change BufferOk pf (if (cpuReset old && !cpuReset k) = true then Cpu.started else k.cpu).wbuf
  split
  · exact ⟨Nat.zero_le _, nofun⟩
  · exact inv.wbuf

theorem Package.Inv.released {pf : Platform} {k : Package} (inv : k.Inv pf) (prst : k.lu.prst = true) {pin : Bool}
    (low : pin = false) : ({ k with lu := releasedLocal k.lu, resetPin := pin } : Package).Inv pf :=
  { inv with
    lu := inv_releasedLocal inv.lu (inv.reset prst)
    held := fun high => by simp [show pin = true from high] at low
    reset := nofun
    extInta := fun _ _ => rfl }

section
variable {s : State} {p : Nat}

theorem inv_resetByMessage (inv : s.Inv) (q : Nat) : (resetByMessage s q).Inv := by
  refine State.Inv.of_same (s := modifyLocal s q softwareResetLocal) (inv_modifyPackage inv fun k _ hk => ?_)
  exact { hk with
    lu := inv_softwareResetLocal k.lu
    held := fun _ => rfl
    reset := fun _ => enabled_clearedLocal (unitIdOf k.lu.id) k.lu
    extInta := fun _ _ => rfl }

/-- R168: a Reset deassert does not reach a unit that RESET holds. -/
theorem inv_releaseByMessage (inv : s.Inv) {q : Nat} (low : ∀ k, s.packages[q]? = some k → k.resetPin = false) :
    (releaseByMessage s q).Inv :=
  inv_modifyPackage inv fun k present hk => by
    split
    case isTrue prst => exact inv_startedOnFall (hk.released prst (low k present)) k
    case isFalse => exact hk

theorem ensures_resetAssert (inv : s.Inv) : Ensures (resetAssert p s) State.Inv := by
  refine ensures_withPackage fun _ _ => ensures_next (State.Inv.of_same (inv_modifyPackage (p := p) inv fun k _ hk => ?_))
  exact { hk with
    lu := inv_hardwareResetLocal k.addrPins k.lu
    iou := inv_clearedIo k.iou
    held := fun _ => rfl
    reset := fun _ => enabled_clearedLocal k.addrPins k.lu
    due := fun extest => by simp [scanDriven, extestOpcode, show k.tap.ir = 0b0000#4 from extest]
    extInta := nofun }

theorem ensures_resetRelease (inv : s.Inv) : Ensures (resetRelease p s) State.Inv := by
  refine ensures_withPackage fun k present => ensures_ite (fun high => ensures_next ?_) fun _ => ensures_next inv
  refine inv_modifyPackage inv fun k' present' hk => ?_
  obtain rfl : k = k' := Option.some.inj (present.symm.trans present')
  exact inv_startedOnFall (hk.released (hk.held high) rfl) k

theorem ensures_addressPins (v : Byte) (inv : s.Inv) : Ensures (addressPins p v s) State.Inv := by
  refine ensures_withPackage fun _ _ => ensures_next (inv_modifyPackage inv fun k _ hk => ?_)
  split
  · have unit : ({ k.lu with id := idWord v } : LocalUnit).Inv :=
      { hk.lu with reserved := { hk.lu.reserved with id := idWord_reserved v } }
    exact { hk with lu := unit }
  · exact { hk with }

theorem ensures_setFirstReset (b : Bool) (inv : s.Inv) : Ensures (setFirstReset p b s) State.Inv :=
  ensures_withPackage fun _ _ => ensures_next (inv_modifyPackage inv fun _ _ hk => { hk with })

theorem ensures_otherPin (c : Fin 137) (lvl : Bool) (inv : s.Inv) :
    Ensures (withPackage s p fun _ => .next (modifyPackage s p (setOtherPin c lvl))) State.Inv := by
  refine ensures_withPackage fun _ _ => ensures_next (inv_modifyPackage inv fun k _ hk => ?_)
  unfold setOtherPin
  split
  · split
    · exact { hk with }
    · exact hk
  · exact hk

/-! ### The processors and memory (R20, R22, R81, R90, R93) -/

theorem ensures_setIntrEnabled (b : Bool) (inv : s.Inv) : Ensures (setIntrEnabled p b s) State.Inv :=
  ensures_withProcessor fun _ _ => ensures_ite (fun _ => ensures_next inv) fun _ =>
    ensures_next (inv_modifyCpu inv fun _ h => h)

theorem ensures_setPageUncached (b : Bool) (inv : s.Inv) : Ensures (setPageUncached p b s) State.Inv :=
  ensures_withProcessor fun _ _ => ensures_ite (fun _ => ensures_next inv) fun _ =>
    ensures_next (inv_modifyCpu inv fun _ h => h)

theorem ensures_cpuStep (inv : s.Inv) : Ensures (cpuStep p s) State.Inv := by
  refine ensures_withProcessor fun _ _ => ensures_ite (fun _ => ensures_next inv) fun _ => ensures_next ?_
  refine State.Inv.of_same (inv_modifyCpu (s := { s with fresh := s.fresh + 1 }) (p := p) inv.of_same ?_)
    (issue_packages ..) (issue_platform ..)
  exact fun _ h => h

theorem inv_memoryStore (inv : s.Inv) (v : Nat) (l : List Word) : (memoryStore p v l s).Inv :=
  State.Inv.of_same (s := modifyPackage s p fun k => { k with view := writeBytes k.view v l })
    (inv_modifyPackage inv fun _ _ hk => { hk with view := wf_writeBytes hk.view v l })

theorem inv_storeSeen (inv : s.Inv) (i : Nat) : (storeSeen i s).Inv := by
  unfold storeSeen
  split
  · rename_i x _
    exact State.Inv.of_same (s := modifyPackage s x.observer fun k => { k with view := memWrite k.view x.addr.toNat x.byte })
      (inv_modifyPackage inv fun _ _ hk => { hk with view := wfFrom_memWrite hk.view (Nat.zero_le _) x.addr.isLt _ })
  · exact inv

theorem ensures_outsideRegisters {sp : Space} {c : Cycle} {f : Package → Res} (inv : s.Inv)
    (h : ∀ k, Ensures (f k) State.Inv) : Ensures (outsideRegisters sp c s f) State.Inv :=
  ensures_withProcessor fun k _ => ensures_ite (fun _ => ensures_next inv) fun _ =>
    ensures_ite (fun _ => ensures_fault _) fun _ => h k

theorem ensures_memoryAccess (c : Cycle) (inv : s.Inv) : Ensures (memoryAccess c s) State.Inv := by
  refine ensures_outsideRegisters inv fun k => ?_
  split
  · exact ensures_next (inv_returnData inv ..)
  · exact ensures_next (inv_memoryStore inv ..)

theorem ensures_ioSpaceAccess (c : Cycle) (inv : s.Inv) : Ensures (ioSpaceAccess c s) State.Inv :=
  ensures_outsideRegisters inv fun _ => ensures_ite (fun _ => ensures_refused _) fun _ => ensures_refused _

/-! ### The floppy controller (R281, R293) -/

/-- No byte at the FIFO reaches a package. -/
theorem ensures_fifoWrite (b : Byte) (inv : s.Inv) : Ensures (fifoWrite b s) State.Inv := by
  obtain ⟨-, -, e⟩ | ⟨-, e⟩ | ⟨-, e⟩ := fifoWrite_cases b s <;> rw [e] <;> exact ensures_next inv.of_same

/-! ### The test access port (R71, R232, R233, R245) -/

/-- The pins may change with the TAP, and only the processor with them. -/
theorem inv_modifyTap {f : Package → Tap} (inv : s.Inv)
    (h : ∀ k, s.packages[p]? = some k → k.Inv s.platform → (f k).Inv ∧ ((f k).ir = 0b0000#4 → k.needsReset = true)) :
    (modifyTap s p f).Inv :=
  inv_modifyPackage inv fun k present hk =>
    have ⟨tap, due⟩ := h k present hk
    inv_startedOnFall (k := { k with tap := f k }) { hk with tap := tap, due := due } k

theorem actOnRise_ir (k : Package) (fresh : Nat) (tdi : Bool) : (actOnRise k fresh tdi).ir = k.tap.ir := by
  unfold actOnRise
  split
  · simp only [captureDr]; split <;> rfl
  · simp only [shiftDr]; split <;> rfl
  · rfl
  · rfl
  · rfl

theorem updateDr_ir (t : Tap) : (updateDr t).ir = t.ir := by
  unfold updateDr
  split <;> rfl

theorem updateDr_state (t : Tap) : (updateDr t).state = t.state := by
  unfold updateDr
  split <;> rfl

/-- R233(c): a move keeps the instruction, or makes it idcode. -/
theorem tapInv_moveTo {k : Package} {pf : Platform} (hk : k.Inv pf) {t : Tap} (same : t.ir = k.tap.ir) (x : TapState) :
    (moveTo x t).Inv ∧ ((moveTo x t).ir = 0b0000#4 → k.needsReset = true) := by
  unfold moveTo
  split
  case isTrue => exact ⟨⟨rfl, fun _ => rfl⟩, fun extest => absurd extest (by decide : idcodeOpcode ≠ 0b0000#4)⟩
  case isFalse other =>
    exact ⟨⟨by rw [same]; exact hk.tap.listed, fun reset => absurd reset other⟩, fun extest => hk.due (same ▸ extest)⟩

theorem ensures_tapRise (tms tdi : Option Bool) (inv : s.Inv) : Ensures (tapRise p tms tdi s) State.Inv :=
  ensures_withPackage fun _ _ => ensures_next (inv_modifyTap inv.of_same fun k _ hk => tapInv_moveTo hk (actOnRise_ir k ..) _)

/-- R368: the package is marked before extest becomes its instruction. -/
theorem ensures_updateIr {k : Package} (present : s.packages[p]? = some k) (state : k.tap.state = .updateIr) (inv : s.Inv) :
    Ensures (updateIr p k s) State.Inv := by
  refine ensures_ite (fun listed => ensures_next (inv_modifyTap (inv_modifyPackage inv fun k _ hk => ?marked)
    fun k' present' _ => ?latched)) fun _ => ensures_refused _
  case marked => exact { hk with due := fun extest => by simp [hk.due extest] }
  case latched =>
    rw [modifyPackage_get_same, present] at present'
    cases present'
    refine ⟨⟨listed, fun reset => ?_⟩, fun extest => ?_⟩
    · simp [state] at reset
    · simp [extestOpcode, show k.tap.irShift = 0b0000#4 from extest]

theorem ensures_tapFall (inv : s.Inv) : Ensures (tapFall p s) State.Inv := by
  refine ensures_withPackage fun k present => ?_
  split
  · refine ensures_next (inv_modifyTap inv fun k _ hk => ⟨⟨?_, ?_⟩, ?_⟩)
    all_goals rw [updateDr_ir]
    · exact hk.tap.listed
    · rw [updateDr_state]
      exact hk.tap.idle
    · exact hk.due
  · exact ensures_updateIr present ‹_› inv
  · exact ensures_next inv

theorem ensures_tapTrst (inv : s.Inv) : Ensures (tapTrst p s) State.Inv :=
  ensures_withPackage fun _ _ => ensures_next (inv_modifyTap inv fun _ _ hk => tapInv_moveTo hk rfl _)

theorem ensures_tapEvent (e : TapEvent) (inv : s.Inv) : Ensures (tapEvent p e s) State.Inv := by
  cases e with
  | rise tms tdi => exact ensures_tapRise tms tdi inv
  | fall => exact ensures_tapFall inv
  | trstLow => exact ensures_tapTrst inv

theorem ensures_tapClocks (l : List (Bool × Bool)) (inv : s.Inv) : Ensures (tapClocks p l s) State.Inv := by
  induction l generalizing s with
  | nil => exact ensures_next inv
  | cons x r ih =>
    refine ensures_andThen (ensures_andThen (ensures_tapRise _ _ inv) fun _ inv' => ensures_tapFall inv') fun _ inv' => ih inv'

theorem ensures_loadAndScan (op : BitVec 4) (tdi : List Bool) (inv : s.Inv) : Ensures (loadAndScan p op tdi s) State.Inv :=
  ensures_withPackage fun _ _ => ensures_andThen (ensures_tapClocks _ inv) fun _ inv₁ =>
    ensures_andThen (ensures_tapClocks _ inv₁) fun _ inv₂ =>
      ensures_ite (fun _ => ensures_next inv₂) fun _ => ensures_tapClocks _ inv₂

end

/-! ### The ICC bus (R160 to R168, R172, R174, R210) -/

section
variable {s : State}

theorem unitStep_eachLocal {f : LocalUnit → LocalUnit} (h : ∀ u : LocalUnit, u.Step (f u)) (qs : List Nat) :
    s.UnitStep (eachLocal f qs s) := by
  induction qs generalizing s with
  | nil => exact .of_same
  | cons q r ih => exact (unitStep_modifyLocal fun k _ => h k.lu).trans ih

theorem unitStep_remoteRead (m : Message) (ts : List (Nat × Package)) : s.UnitStep (remoteRead m ts s) := by
  unfold remoteRead
  split
  · exact unitStep_storeRemote _
  · split
    · exact .of_same
    · exact unitStep_modifyLocal fun k _ => step_readStatus k.lu.remote readInvalid k.lu
  · exact .of_same

theorem unitStep_acknowledgeSender (m : Message) (ts : List (Nat × Package)) : s.UnitStep (acknowledgeSender m ts s) := by
  unfold acknowledgeSender
  split
  · exact unitStep_modifyLocal fun k _ => .of_registers fun h =>
      { h with reserved := { h.reserved with icrLow := setBit_outside h.reserved.icrLow (by decide) false } }
  · have idle := unitStep_modifyIo (s := s) (n := ‹Nat›) (step_setEntryBit ‹Fin 16› (.inl rfl)
      (s.icc.queue.any fun x => x.source == m.source))
    dsimp only
    split
    · exact idle.trans (unitStep_modifyIo (step_setEntryBit _ (.inr rfl) _))
    · exact idle

theorem inv_synchroniseArbIds (inv : s.Inv) : (synchroniseArbIds s).Inv := by
  refine ⟨fun q k present => ?_⟩
  obtain ⟨k₀, present₀, rfl⟩ := Option.map_eq_some_iff.1 (List.getElem?_map ▸ present)
  have hk := inv.packages q k₀ present₀
  split
  · exact hk
  · exact inv_setLocal hk { hk.lu with reserved := { hk.lu.reserved with } } rfl rfl hk.extInta

/-- No package that the list names is held by RESET. -/
def NoneHeld (qs : List Nat) (s : State) : Prop := ∀ q ∈ qs, ∀ k, s.packages[q]? = some k → k.resetPin = false

/-- R161: a target is not held by RESET. -/
theorem noneHeld_targets (m : Message) (s : State) : NoneHeld ((targets m s).map Prod.fst) s := by
  intro q mem k present
  obtain ⟨⟨q, k'⟩, target, rfl⟩ := List.mem_map.1 mem
  simp only [targets, receivers, List.mem_filter, List.mem_mapIdx] at target
  obtain ⟨⟨⟨i, hi, e⟩, receives⟩, -⟩ := target
  cases e
  obtain rfl := Option.some.inj ((List.getElem?_eq_getElem hi).symm.trans present)
  simp_all [Machine.receives]

theorem NoneHeld.release {qs : List Nat} (h : NoneHeld qs s) (q : Nat) : NoneHeld qs (releaseByMessage s q) := by
  intro x mem k present
  rw [releaseByMessage, modifyPackage_get] at present
  split at present
  · obtain ⟨k₀, present₀, rfl⟩ := Option.map_eq_some_iff.1 present
    split
    · rw [startedOnFall_eq]
      exact h x mem k₀ present₀
    · exact h x mem k₀ present₀
  · exact h x mem k present

theorem inv_releaseAll {qs : List Nat} (inv : s.Inv) (h : NoneHeld qs s) : (qs.foldl releaseByMessage s).Inv := by
  induction qs generalizing s with
  | nil => exact inv
  | cons q r ih =>
    exact ih (inv_releaseByMessage inv (h q List.mem_cons_self))
      (NoneHeld.release (fun x mem => h x (List.mem_cons_of_mem _ mem)) q)

theorem inv_resetAll (qs : List Nat) (inv : s.Inv) : (qs.foldl resetByMessage s).Inv := by
  induction qs generalizing s with
  | nil => exact inv
  | cons q r ih => exact ih (inv_resetByMessage inv q)

theorem inv_deliverTo {m : Message} (choice : List Nat) {ts : List (Nat × Package)} (inv : s.Inv)
    (held : NoneHeld (ts.map Prod.fst) s) : (deliverTo m choice ts s).Inv := by
  simp only [deliverTo]
  split
  · exact (unitStep_eachLocal (step_acceptFixed _ _ _) _).inv inv
  · exact (unitStep_eachLocal (step_acceptFixed _ _ _) _).inv inv
  · exact (unitStep_eachLocal step_acceptExtInt _).inv inv
  · exact (unitStep_eachLocal (step_acceptNmi _) _).inv inv
  · split
    · exact inv_resetAll _ inv
    · exact inv_synchroniseArbIds (inv_releaseAll inv held)
  · exact (unitStep_remoteRead m ts).inv inv

theorem ensures_deliverCarried (choice : List Nat) (inv : s.Inv) : Ensures (deliverCarried choice s) State.Inv := by
  unfold deliverCarried
  split
  · exact ensures_next inv
  · rename_i m _
    refine ensures_ite (fun _ => ensures_ite (fun _ => ensures_fault _) fun _ => ensures_ite (fun _ => ensures_refused _)
      fun _ => ensures_next ?_) fun _ => ensures_refused _
    refine (unitStep_acknowledgeSender m _).inv (inv_deliverTo choice inv.of_same ?_)
    exact noneHeld_targets m s

theorem ensures_arbitrate (i : Nat) (inv : s.Inv) : Ensures (arbitrate i s) State.Inv := by
  unfold arbitrate
  split
  · exact ensures_ite (fun _ => ensures_refused _) fun _ => ensures_next inv.of_same
  · exact ensures_next inv

/-! ### Operations and events -/

theorem ensures_reservedAccess {p : Nat} {sel : BitVec 6} {a : Access} (inv : s.Inv) :
    Ensures (localAccess p sel a readReserved (fun p _ => writeReserved p) s) State.Inv :=
  ensures_localAccess inv fun _ _ => ensures_writeReserved

theorem ensures_exec (i : Instr) (inv : s.Inv) : Ensures (exec i s) State.Inv := by
  cases i with
  | luId p a => exact ensures_localAccess inv fun v _ => ensures_writeId v
  | luTpr p a => exact ensures_localAccess inv fun v _ => ensures_writeTpr v
  | luEoi p a => exact ensures_localAccess inv fun v _ => ensures_writeEoi v
  | luLdr p a => exact ensures_localAccess inv fun v _ => ensures_writeLdr v
  | luDfr p a => exact ensures_localAccess inv fun v _ => ensures_writeDfr v
  | luSvr p a => exact ensures_localAccess inv fun v _ => ensures_writeSvr v
  | luIcrLow p a => exact ensures_localAccess inv fun v _ => ensures_writeIcrLow v
  | luIcrHigh p a => exact ensures_localAccess inv fun v _ => ensures_writeIcrHigh v
  | luLvtTimer p a => exact ensures_localAccess inv fun v _ => ensures_writeLvtTimer v
  | luLvtLint0 p a => exact ensures_localAccess inv fun v _ => ensures_writeLvtLint0 v
  | luLvtLint1 p a => exact ensures_localAccess inv fun v _ => ensures_writeLvtLint1 v
  | luTimerInit p a => exact ensures_localAccess inv fun v _ => ensures_writeTimerInit v
  | luTimerDiv p a => exact ensures_localAccess inv fun v _ => ensures_writeTimerDiv v
  | luVersion p a | luRemote p a | luIsr p k a | luTmr p k a | luIrr p k a | luTimerCur p a =>
    exact ensures_localAccess inv fun _ _ => ensures_localIgnore
  | luReserved000000 p a | luReserved000001 p a | luReserved000100 p a | luReserved000101 p a | luReserved000110 p a
  | luReserved000111 p a | luReserved001001 p a | luReserved001010 p a | luReserved101000 p a | luReserved101001 p a
  | luReserved101010 p a | luReserved101011 p a | luReserved101100 p a | luReserved101101 p a | luReserved101110 p a
  | luReserved101111 p a | luReserved110011 p a | luReserved110100 p a | luReserved110111 p a | luReserved111010 p a
  | luReserved111011 p a | luReserved111100 p a | luReserved111101 p a | luReserved111111 p a =>
    exact ensures_reservedAccess inv
  | ioSelect p n a | ioWindow p n a | ioReservedDirect p n sel a => exact ensures_ioAccess inv
  | ioIdxId p n a | ioIdxVersion p n a | ioIdxRtLow0To7 p n k a | ioIdxRtHigh0To7 p n k a | ioIdxRtLow8To15 p n k a
  | ioIdxRtHigh8To15 p n k a | ioIdxReserved p n idx a =>
    exact ensures_indexAccess inv
  | msgFixed p f | msgLowestPriority p f | msgRemoteRead p f | msgNmi p f | msgReset p f | msgExtint p f =>
    exact ensures_commandAccess inv
  | msgReserved010 p f | msgReserved110 p f => exact ensures_fault _
  | jtagExtest k tdi | jtagSamplePreload k tdi | jtagIdcode k tdi | jtagBypass k tdi => exact ensures_loadAndScan _ tdi inv
  | jtagReserved1001 k tdi | jtagUnlisted0011 k tdi | jtagUnlisted0100 k tdi | jtagUnlisted0101 k tdi
  | jtagUnlisted0110 k tdi | jtagUnlisted0111 k tdi | jtagUnlisted1000 k tdi | jtagUnlisted1010 k tdi
  | jtagUnlisted1011 k tdi | jtagUnlisted1100 k tdi | jtagUnlisted1101 k tdi | jtagUnlisted1110 k tdi =>
    exact ensures_refused _
  | fdcPerpendicularMode pr => exact ensures_andThen (ensures_fifoWrite _ inv) fun _ inv' => ensures_fifoWrite pr inv'
  | fdcDumpregResult8 => exact ensures_next inv.of_same

theorem ensures_otherCycle (e : DecodeError) (c : Cycle) (inv : s.Inv) : Ensures (otherCycle e c s) State.Inv := by
  cases e with
  | partialOrOffsetAccess =>
    exact ensures_withProcessor fun _ _ => ensures_ite (fun _ => ensures_next inv) fun _ =>
      ensures_ite (fun _ => ensures_refused _) fun _ => ensures_fault _
  | outsideDevices => exact ensures_ite (fun _ => ensures_ioSpaceAccess c inv) fun _ => ensures_memoryAccess c inv
  | reservedCommandBits | tooManyBits => exact ensures_refused _
  | unitWithoutPage => exact ensures_fault _
  | otherFloppyCommand => exact ensures_andThen (ensures_fifoWrite _ inv) fun _ inv' => ensures_fifoWrite _ inv'

theorem ensures_runCycle (c : Cycle) (inv : s.Inv) : Ensures (runCycle c s) State.Inv := by
  unfold runCycle
  split
  · exact ensures_exec _ inv
  · exact ensures_otherCycle _ c inv

theorem ensures_runEvent (e : Event) (inv : s.Inv) : Ensures (runEvent e s) State.Inv := by
  cases e with
  | resetAssert k => exact ensures_resetAssert inv
  | resetRelease k => exact ensures_resetRelease inv
  | addressPins k v => exact ensures_addressPins v inv
  | firstReset k b => exact ensures_setFirstReset b inv
  | lintPin k j b => exact (ensures_lintPin j b).inv_of_unitStep inv
  | lintSample k j => exact (ensures_lintSample j).inv_of_unitStep inv
  | intPin k i b => exact (ensures_intPin i b).inv_of_unitStep inv
  | ioSample k => exact ensures_ioSample.inv_of_unitStep inv
  | otherPin k c b => exact ensures_otherPin c b inv
  | timerTick k => exact ensures_timerTick.inv_of_unitStep inv
  | arbitrate i => exact ensures_arbitrate i inv
  | deliver choice => exact ensures_deliverCarried choice inv
  | drain p => exact ensures_drainOne inv
  | cpuStep p => exact ensures_cpuStep inv
  | storeSeen i => exact ensures_next (inv_storeSeen inv i)
  | intaFirst p => exact ensures_intaFirst inv
  | intaSecond p ext => exact ensures_intaSecond ext inv
  | setIntrEnabled p b => exact ensures_setIntrEnabled b inv
  | setPageUncached p b => exact ensures_setPageUncached b inv
  | tap k e => exact ensures_tapEvent e inv
  | fifoWrite b => exact ensures_fifoWrite b inv
  | fdcSoftwareReset | fdcHardwareReset | fdcRate r | fdcPrecomp ns | fdcTransfer t d => exact ensures_next inv.of_same

theorem ensures_step (inv : s.Inv) : Ensures (step s) State.Inv := by
  have consumed : (consumeInput s).Inv := inv.of_same
  unfold step
  split
  · exact ensures_next inv
  · exact ensures_runCycle _ consumed
  · exact ensures_runEvent _ consumed

end

/-- Settles O5, by cases on what the step does: every operation and every event keeps the invariant. -/
theorem stepKeepsInvariant : Obligations.StepKeepsInvariant := fun _ t inv next => ensures_step inv t next

end Sys2Proof.Machine
end


section
/-!
PROOFS. Reads and writes of local unit registers that only return or only store (R30, R39 to R41, R47 to R49, R100, R101).
-/

namespace Sys2Proof.Machine

section
variable {s : State} {p : Nat} {k : Package}

/-! ### What a read returns (R100) -/

theorem localRow_read (ready : BusReady s p k) (empty : k.cpu.wbuf = []) (sel : BitVec 6) :
    exec (localInstr sel p .read) s = .next (returnRead s p (localRead sel k.lu)) := by
  rw [exec_localInstr, localAccess_read ready empty]

theorem localRow_read_some (ready : BusReady s p k) (empty : k.cpu.wbuf = []) (sel : BitVec 6) {w : Word}
    (value : localRead sel k.lu = some w) : exec (localInstr sel p .read) s = .next (s.received p k w) := by
  rw [localRow_read ready empty, value, returnRead, returnData_of ready.present]

/-- A register the sources give no value reads as a free value, drawn afresh (U1, U4). -/
theorem localRow_read_none (ready : BusReady s p k) (empty : k.cpu.wbuf = []) (sel : BitVec 6)
    (value : localRead sel k.lu = none) :
    exec (localInstr sel p .read) s =
      .next { s.received p k (Config.freeWord s.fresh) with fresh := s.fresh + 1 } := by
  rw [localRow_read ready empty, value, returnRead, returnData_of (s := { s with fresh := s.fresh + 1 }) ready.present]
  rfl

/-! ### The vector registers (R39 to R41) -/

theorem localRead_isr (j : BitVec 3) (u : LocalUnit) : localRead (0b010#3 ++ j) u = some (readVectorWord u.isr j) := by
  obtain ⟨j⟩ := j
  fin_cases j <;> rfl

theorem localRead_tmr (j : BitVec 3) (u : LocalUnit) : localRead (0b011#3 ++ j) u = some (readVectorWord u.tmr j) := by
  obtain ⟨j⟩ := j
  fin_cases j <;> rfl

theorem localRead_irr (j : BitVec 3) (u : LocalUnit) : localRead (0b100#3 ++ j) u = some (readVectorWord u.irr j) := by
  obtain ⟨j⟩ := j
  fin_cases j <;> rfl

theorem getLsbD_highHalf {b : Nat} (h : b < 32) : (0xFFFF0000#32).getLsbD b = decide (16 ≤ b) := by decide +revert

/-- R39: a word of a vector register is 32 of its bits, of which those of vectors 0 to 15 read 0. -/
theorem getLsbD_readVectorWord (r : VectorSet) (j : BitVec 3) {b : Nat} (hb : b < 32) :
    (readVectorWord r j).getLsbD b = (decide (16 ≤ 32 * j.toNat + b) && r.getLsbD (32 * j.toNat + b)) := by
  have word : (vectorWord r j).getLsbD b = r.getLsbD (32 * j.toNat + b) := by simp [vectorWord, hb]
  unfold readVectorWord
  split
  case isTrue zero =>
    subst zero
    rw [BitVec.getLsbD_and, word, getLsbD_highHalf hb, Bool.and_comm]
    simp
  case isFalse other =>
    have above : 16 ≤ 32 * j.toNat + b := by
      have : j.toNat ≠ 0 := fun e => other (BitVec.eq_of_toNat_eq e)
      omega
    simp [word, above]

/-- Settles O8: the row of each selector reads its own register. -/
theorem localRegisterReads : Obligations.LocalRegisterReads := by
  intro s p k j ready empty
  have row (sel : BitVec 6) {w : Word} := localRow_read_some ready empty sel (w := w)
  refine ⟨row 0b000010 rfl, row 0b000011 rfl, row 0b001000 rfl, row 0b001100 rfl, row 0b001101 rfl, row 0b001110 rfl,
    row 0b001111 rfl, row 0b110000 rfl, row 0b110001 rfl, row 0b110010 rfl, row 0b110101 rfl, row 0b110110 rfl,
    row 0b111000 rfl, row 0b111001 rfl, row 0b111110 rfl, readVectorWord k.lu.isr j, readVectorWord k.lu.tmr j,
    readVectorWord k.lu.irr j, ?isr, ?tmr, ?irr, fun b hb => ⟨?_, ?_, ?_⟩⟩
  case isr =>
    rw [← localInstr_isr]
    exact row _ (localRead_isr j _)
  case tmr =>
    rw [← localInstr_tmr]
    exact row _ (localRead_tmr j _)
  case irr =>
    rw [← localInstr_irr]
    exact row _ (localRead_irr j _)
  all_goals exact getLsbD_readVectorWord _ j hb

/-! ### The reserved selectors (R47) -/

def reservedSelectors : List (BitVec 6) :=
  [0b000000, 0b000001, 0b000100, 0b000101, 0b000110, 0b000111, 0b001001, 0b001010, 0b101000, 0b101001, 0b101010, 0b101011,
   0b101100, 0b101101, 0b101110, 0b101111, 0b110011, 0b110100, 0b110111, 0b111010, 0b111011, 0b111100, 0b111101, 0b111111]

theorem mem_reservedLocalRows {c : Nat → Access → Instr} (h : c ∈ reservedLocalRows) :
    ∃ sel ∈ reservedSelectors, localInstr sel = c := by
  have rows : reservedLocalRows = reservedSelectors.map localInstr := rfl
  rw [rows] at h
  exact List.mem_map.1 h

theorem localRead_of_reserved {sel : BitVec 6} (h : sel ∈ reservedSelectors) (u : LocalUnit) : localRead sel u = none := by
  fin_cases h <;> rfl

theorem localWrite_of_reserved {sel : BitVec 6} (h : sel ∈ reservedSelectors) (p : Nat) (v : Word) (s : State) :
    localWrite p sel v s = writeReserved p s := by
  fin_cases h <;> rfl

/-- Settles O9: every row reads through `localRead`, whether that gives a value or none. -/
theorem localReadBySelector : Obligations.LocalReadBySelector := by
  intro s p k sel ready empty
  refine ⟨?any, localRow_read_none ready empty 0b001011 rfl, fun c row => ?reserved⟩
  case any =>
    cases value : localRead sel k.lu with
    | some w => exact localRow_read_some ready empty sel value
    | none => exact localRow_read_none ready empty sel value
  case reserved =>
    obtain ⟨sel', reserved, rfl⟩ := mem_reservedLocalRows row
    exact localRow_read_none ready empty sel' (localRead_of_reserved reserved _)

/-! ### What a write stores (R101) -/

theorem localRow_write (reach : ReachesPage s p k s.platform.lu) (empty : k.cpu.wbuf = []) (sel : BitVec 6) (v : Word) :
    exec (localInstr sel p (.write v false)) s = localWrite p sel v s := by
  rw [exec_localInstr, localAccess_write reach empty]

theorem localIgnore_of (ready : BusReady s p k) : localIgnore p s = .next s := functional_of _ ready.present ready.usable

theorem writeReserved_of (ready : BusReady s p k) : writeReserved p s = .next (flagReserved s) := by
  rw [writeReserved, functional_of _ ready.present ready.usable, ready.released]
  rfl

theorem localRow_stores (ready : BusReady s p k) (empty : k.cpu.wbuf = []) (sel : BitVec 6) {v : Word}
    {f : LocalUnit → LocalUnit} (stores : localWrite p sel v s = localStore p s f) :
    exec (localInstr sel p (.write v false)) s = .next (s.putLocal p k (f k.lu)) := by
  rw [localRow_write ready.toReachesPage empty, stores, localStore_of ready]

theorem localRow_ignored (ready : BusReady s p k) (empty : k.cpu.wbuf = []) (sel : BitVec 6) {v : Word}
    (ignores : localWrite p sel v s = localIgnore p s) : exec (localInstr sel p (.write v false)) s = .next s := by
  rw [localRow_write ready.toReachesPage empty, ignores, localIgnore_of ready]

/-- R31, R48: of a word written to the ID register only the unit ID is stored. -/
theorem and_idMask (v : Word) : v &&& idMask = v.extractLsb' 24 8 ++ 0#24 :=
  calc v &&& idMask
    _ = (v.extractLsb' 24 8 ++ v.extractLsb' 0 24) &&& (BitVec.allOnes 8 ++ 0#24) := by
        rw [BitVec.extractLsb'_append_extractLsb']; rfl
    _ = v.extractLsb' 24 8 ++ 0#24 := by rw [BitVec.and_append, BitVec.and_allOnes, BitVec.and_zero]

end

/-- The vector registers are read only (R49): the selectors of R30 with the upper half 010, 011 and 100. -/
theorem localWrite_vectorRegister {high : BitVec 3} (h : high ∈ [0b010#3, 0b011#3, 0b100#3]) (j : BitVec 3) (p : Nat) (v : Word)
    (s : State) : localWrite p (high ++ j) v s = localIgnore p s := by
  obtain ⟨j⟩ := j
  fin_cases h <;> fin_cases j <;> rfl

/-- Settles O10: the row of each selector stores under its mask, is ignored, or is recorded. -/
theorem localRegisterWrites : Obligations.LocalRegisterWrites := by
  intro s p k v j ready empty
  have store (sel : BitVec 6) {f : LocalUnit → LocalUnit} := localRow_stores ready empty sel (v := v) (f := f)
  have ignored (sel : BitVec 6) := localRow_ignored ready empty sel (v := v)
  have vector {high : BitVec 3} (h : high ∈ [0b010#3, 0b011#3, 0b100#3]) :=
    ignored (high ++ j) (localWrite_vectorRegister h j p v s)
  refine ⟨?id, store 0b001101 rfl, store 0b001110 rfl, store 0b110001 rfl, store 0b111000 rfl, store 0b111110 rfl,
    ignored 0b000011 rfl, ignored 0b001100 rfl, ?isr, ?tmr, ?irr, ignored 0b111001 rfl, fun c row => ?reserved⟩
  case id =>
    rw [← and_idMask]
    exact store 0b000010 rfl
  case isr =>
    rw [← localInstr_isr]
    exact vector (by simp)
  case tmr =>
    rw [← localInstr_tmr]
    exact vector (by simp)
  case irr =>
    rw [← localInstr_irr]
    exact vector (by simp)
  case reserved =>
    obtain ⟨sel, reserved, rfl⟩ := mem_reservedLocalRows row
    rw [localRow_write ready.toReachesPage empty, localWrite_of_reserved reserved]
    exact writeReserved_of ready

end Sys2Proof.Machine
end


section
/-!
PROOFS. The write buffer of a processor (R23, R85 to R88, R371): a posted write enters it, an access that is not posted drains it first,
and its oldest write drains as one that is not posted, which no register of a unit can tell from it.
-/

namespace Sys2Proof.Machine

/-! ### Posted writes (R85) -/

section
variable {s : State} {p : Nat} {k : Package} {l : Location}

theorem setBuffer_of (present : s.packages[p]? = some k) (b : List (Word × Word)) :
    setBuffer s p b = s.putPackage p { k with cpu := { k.cpu with wbuf := b } } := modifyCpu_of present _

theorem registerAccess_posted (reach : ReachesPage s p k l) (sel : BitVec 6) (v : Word) (rd : State → Res)
    (wr : Word → State → Res) :
    registerAccess p l sel (.write v true) rd wr s =
      if l.space = .memory ∧ k.cpu.wbuf.length < Config.wbufDepth then
        .next (s.putPackage p { k with cpu := { k.cpu with wbuf := k.cpu.wbuf ++ [(registerAddress l sel, v)] } })
      else registerAccess p l sel (.write v false) rd wr s := by
  simp [registerAccess_of reach, postOrWrite, withPackage_of _ reach.present, setBuffer_of reach.present]

/-- What the processor may reach does not depend on its buffer. -/
theorem ReachesPage.buffered (reach : ReachesPage s p k l) (b : List (Word × Word)) :
    ReachesPage (s.putPackage p { k with cpu := { k.cpu with wbuf := b } }) p
      { k with cpu := { k.cpu with wbuf := b } } l :=
  ⟨putPackage_get_same reach.present _, reach.wired, reach.running, reach.uncached⟩

end

/-- Settles O13: the access of each row is posted where it has room; that of an index is two accesses. -/
theorem postedWrite : Obligations.PostedWrite := by
  intro s p k sel v
  refine ⟨fun reach => ?localRow, fun n i hn reach => ⟨?ioRow, ?indexRow, fun memory room => ?bothPosted⟩⟩
  case localRow =>
    rw [exec_localInstr, exec_localInstr]
    exact registerAccess_posted reach ..
  case ioRow =>
    rw [exec_ioInstr, exec_ioInstr, ioAccess_of hn, ioAccess_of hn]
    exact registerAccess_posted reach ..
  case indexRow =>
    rw [exec_indexInstr]
    rfl
  case bothPosted =>
    have reach' := reach.buffered (k.cpu.wbuf ++ [(registerAddress (ioLocation s.platform n) 0b000000#6, i.setWidth 32)])
    have first : (ioLocation s.platform n).space = .memory ∧ k.cpu.wbuf.length < Config.wbufDepth := ⟨memory, by omega⟩
    have second : (ioLocation s.platform n).space = .memory ∧
        (k.cpu.wbuf ++ [(registerAddress (ioLocation s.platform n) 0b000000#6, i.setWidth 32)]).length < Config.wbufDepth :=
      ⟨memory, by simpa using room⟩
    rw [exec_indexInstr]
    simp only [indexAccess]
    rw [ioAccess_of hn, registerAccess_posted reach, if_pos first, andThen_next, ioAccess_of (by exact hn)]
    refine (registerAccess_posted reach' ..).trans ?_
    rw [if_pos second, putPackage_put, List.append_assoc]
    rfl

/-! ### Accesses that are not posted follow the buffer (R86 to R88) -/

theorem andThen_assoc (r : Res) (f g : State → Res) : andThen (andThen r f) g = andThen r fun t => andThen (f t) g := by
  cases r <;> rfl

theorem andThen_congr {r : Res} {f g : State → Res} (h : ∀ t, r = .next t → f t = g t) : andThen r f = andThen r g := by
  cases r with
  | next t => exact h t rfl
  | fault e => rfl
  | refused e => rfl

theorem Package.UnitStep.cpuHeld {k k' : Package} (h : k.UnitStep k') : cpuHeld k' = cpuHeld k := by
  rw [h.rest]
  simp only [Machine.cpuHeld, cpuReset, pinPrst, h.lu.prst, h.lu.phase]

/-- R53: a request stays at the pin INT, be it the unit that drives it or the scan path. -/
theorem Package.UnitStep.cpuInt {k k' : Package} (h : k.UnitStep k') (inv : k.lu.Inv) (request : cpuInt k = true) :
    cpuInt k' = true := by
  rw [h.rest]
  simp only [Machine.cpuInt, pinPint] at request ⊢
  split
  case isTrue driven => simpa [driven] using request
  case isFalse driven =>
    have high : k.lu.pint = .high := by simpa [driven] using request
    simp [h.lu.pint inv high]

section
variable {s : State} {p : Nat} {k : Package} {w : Word × Word} {b : List (Word × Word)}

theorem drainOne_of (present : s.packages[p]? = some k) (wired : k.hasCpu = true) (running : cpuHeld k = false)
    (buffer : k.cpu.wbuf = w :: b) : drainOne p s = regWrite p w.1 w.2 (setBuffer s p b) := by
  rw [drainOne, withProcessor_of _ present wired, if_neg (by simp [running]), buffer]

/-- What the oldest write of the buffer leaves: the processor with the rest of its buffer, in a machine whose units only have
changed. -/
theorem ensures_drainOldest (present : s.packages[p]? = some k) (wired : k.hasCpu = true) (running : cpuHeld k = false)
    (buffer : k.cpu.wbuf = w :: b) :
    Ensures (drainOne p s) fun t => t.platform = s.platform ∧ t.input = s.input ∧
      ∃ k', t.packages[p]? = some k' ∧ ({ k with cpu := { k.cpu with wbuf := b } } : Package).UnitStep k' := by
  rw [drainOne_of present wired running buffer]
  refine (ensures_regWrite p w.1 w.2).imp fun t step => ⟨step.platform, step.input, step.present ?_⟩
  rw [setBuffer_of present, putPackage_get_same present]

theorem drainAll_of_drainOne (present : s.packages[p]? = some k) (wired : k.hasCpu = true) (running : cpuHeld k = false)
    (buffer : k.cpu.wbuf = w :: b) : drainAll p s = andThen (drainOne p s) (drainAll p) := by
  calc drainAll p s
    _ = andThen (drainOne p s) (drainList p b) := by
        rw [drainAll, withPackage_of _ present, buffer, drainOne_of present wired running buffer]; rfl
    _ = andThen (drainOne p s) (drainAll p) := andThen_congr fun t drained => by
        obtain ⟨-, -, k', present', step⟩ := ensures_drainOldest present wired running buffer t drained
        rw [drainAll, withPackage_of _ present', step.rest]

theorem ReachesPage.afterDrain {l : Location} (reach : ReachesPage s p k l) (buffer : k.cpu.wbuf = w :: b) {t : State}
    (drained : drainOne p s = .next t) : t.platform = s.platform ∧ ∃ k', ReachesPage t p k' l := by
  obtain ⟨platform, -, k', present, step⟩ := ensures_drainOldest reach.present reach.wired reach.running buffer t drained
  refine ⟨platform, k', present, ?_, step.cpuHeld.trans reach.running, fun memory => ?_⟩
  · rw [step.rest]; exact reach.wired
  · rw [step.rest]; exact reach.uncached memory

/-- What an access does once the buffer is empty. -/
def effectOf (a : Access) (rd : State → Res) (wr : Word → State → Res) : State → Res :=
  match a with
  | .read => rd
  | .write v _ => wr v

theorem registerAccess_drains {l : Location} (reach : ReachesPage s p k l) {a : Access} (now : ∀ v, a ≠ .write v true)
    (sel : BitVec 6) (rd : State → Res) (wr : Word → State → Res) :
    registerAccess p l sel a rd wr s = andThen (drainAll p s) (effectOf a rd wr) := by
  rw [registerAccess_of reach]
  match a, now with
  | .read, _ => rfl
  | .write v false, _ => simp [postOrWrite, withPackage_of _ reach.present, effectOf]
  | .write v true, now => exact absurd rfl (now v)

theorem registerAccess_flush {l : Location} (reach : ReachesPage s p k l) (buffer : k.cpu.wbuf = w :: b) {a : Access}
    (now : ∀ v, a ≠ .write v true) (sel : BitVec 6) (rd : State → Res) (wr : Word → State → Res) :
    registerAccess p l sel a rd wr s = andThen (drainOne p s) (registerAccess p l sel a rd wr) := by
  rw [registerAccess_drains reach now, drainAll_of_drainOne reach.present reach.wired reach.running buffer, andThen_assoc]
  refine andThen_congr fun t drained => ?_
  obtain ⟨-, k', reach'⟩ := reach.afterDrain buffer drained
  rw [registerAccess_drains reach' now]

theorem localAccess_flush (reach : ReachesPage s p k s.platform.lu) (buffer : k.cpu.wbuf = w :: b) {a : Access}
    (now : ∀ v, a ≠ .write v true) (sel : BitVec 6) (rd : LocalUnit → Option Word) (wr : Nat → Word → State → Res) :
    localAccess p sel a rd wr s = andThen (drainOne p s) (localAccess p sel a rd wr) := by
  rw [localAccess, registerAccess_flush reach buffer now]
  refine andThen_congr fun t drained => ?_
  rw [localAccess, (reach.afterDrain buffer drained).1]

theorem localRow_flush (reach : ReachesPage s p k s.platform.lu) (buffer : k.cpu.wbuf = w :: b) {a : Access}
    (now : ∀ v, a ≠ .write v true) (sel : BitVec 6) :
    exec (localInstr sel p a) s = andThen (drainOne p s) (exec (localInstr sel p a)) := by
  rw [exec_localInstr, localAccess_flush reach buffer now]
  exact andThen_congr fun t _ => (exec_localInstr ..).symm

theorem commandRow_flush (reach : ReachesPage s p k s.platform.lu) (buffer : k.cpu.wbuf = w :: b)
    {c : Nat → CommandFields → Instr} (hc : c ∈ commandRows) (f : CommandFields) :
    exec (c p f) s = andThen (drainOne p s) (exec (c p f)) := by
  obtain ⟨word, row⟩ := exec_commandRow hc p f
  rw [row]
  refine (localAccess_flush reach buffer (a := .write word false) nofun ..).trans ?_
  exact andThen_congr fun t _ => (row t).symm

theorem ioAccess_flush {n : Nat} (reach : IoBusReady s p n k) (hn : n < s.platform.ious.length)
    (buffer : k.cpu.wbuf = w :: b) {a : Access} (now : ∀ v, a ≠ .write v true) (sel : BitVec 6) :
    ioAccess p n sel a s = andThen (drainOne p s) (ioAccess p n sel a) := by
  rw [ioAccess_of hn, registerAccess_flush reach buffer now]
  refine andThen_congr fun t drained => ?_
  have platform := (reach.afterDrain buffer drained).1
  rw [ioAccess_of (platform ▸ hn), platform]

theorem indexAccess_of_now {a : Access} (now : ∀ v, a ≠ .write v true) (p n : Nat) (i : Byte) (s : State) :
    indexAccess p n i a s = andThen (ioAccess p n 0#6 (.write (i.setWidth 32) false) s) (ioAccess p n 1#6 a) := by
  match a, now with
  | .read, _ => rfl
  | .write v false, _ => rfl
  | .write v true, now => exact absurd rfl (now v)

/-- R113: the select of an index already follows the buffer. -/
theorem indexAccess_flush {n : Nat} (reach : IoBusReady s p n k) (hn : n < s.platform.ious.length)
    (buffer : k.cpu.wbuf = w :: b) {a : Access} (now : ∀ v, a ≠ .write v true) (i : Byte) :
    indexAccess p n i a s = andThen (drainOne p s) (indexAccess p n i a) := by
  rw [indexAccess_of_now now, ioAccess_flush reach hn buffer (a := .write (i.setWidth 32) false) nofun, andThen_assoc]
  exact andThen_congr fun t _ => (indexAccess_of_now now ..).symm

/-! ### An acknowledge that flushes (R87) -/

/-- The first cycle of an acknowledge, the buffer having been flushed. -/
def firstCycle (p : Nat) (s : State) : Res :=
  functional s p fun k =>
    if unitHeld k then .next s
    else
      .next (modifyLocal (returnData { s with fresh := s.fresh + 1 } p (Config.freeAcknowledgeData s.fresh)) p acknowledgeFirst)

theorem intaFirst_of_flushes (present : s.packages[p]? = some k) (wired : k.hasCpu = true) (may : mayAcknowledge k = true)
    (flushes : Config.intaFlushesWbuf = true) : intaFirst p s = andThen (drainAll p s) (firstCycle p) := by
  rw [intaFirst, withProcessor_of _ present wired, if_pos may]
  by_cases empty : k.cpu.wbuf = []
  · rw [if_neg (by simp [empty]), drainAll_empty present empty]
    rfl
  · rw [if_pos ⟨empty, flushes⟩]
    rfl

theorem mayAcknowledge_of (request : cpuInt k = true) (enabled : k.cpu.intrEnabled = true) (running : cpuHeld k = false) :
    mayAcknowledge k = true := by simp [mayAcknowledge, request, enabled, running]

/-- After the oldest write has drained the request still stands, and the acknowledge flushes the rest. -/
theorem intaFirst_flush (reach : ReachesPage s p k s.platform.lu) (buffer : k.cpu.wbuf = w :: b) (inv : k.lu.Inv)
    (request : cpuInt k = true) (enabled : k.cpu.intrEnabled = true) (flushes : Config.intaFlushesWbuf = true) :
    intaFirst p s = andThen (drainOne p s) (intaFirst p) := by
  rw [intaFirst_of_flushes reach.present reach.wired (mayAcknowledge_of request enabled reach.running) flushes,
    drainAll_of_drainOne reach.present reach.wired reach.running buffer, andThen_assoc]
  refine andThen_congr fun t drained => ?_
  obtain ⟨-, -, k', present, step⟩ := ensures_drainOldest reach.present reach.wired reach.running buffer t drained
  have request' : cpuInt k' = true := step.cpuInt inv request
  have running' : cpuHeld k' = false := step.cpuHeld.trans reach.running
  have enabled' : k'.cpu.intrEnabled = true := by rw [step.rest]; exact enabled
  have wired' : k'.hasCpu = true := by rw [step.rest]; exact reach.wired
  rw [intaFirst_of_flushes present wired' (mayAcknowledge_of request' enabled' running') flushes]

/-! ### After a read the buffer is empty (R86) -/

/-- The buffer of processor `p` is `b`. -/
def BufferIs (p : Nat) (b : List (Word × Word)) (s : State) : Prop := ∃ k, s.packages[p]? = some k ∧ k.cpu.wbuf = b

theorem ensures_drainList_empties (buffer : BufferIs p b s) : Ensures (drainList p b s) (BufferIs p []) := by
  induction b generalizing s with
  | nil => exact ensures_next buffer
  | cons w r ih =>
    obtain ⟨k, present, -⟩ := buffer
    refine ensures_andThen (ensures_regWrite p w.1 w.2) fun t step => ih ?_
    rw [setBuffer_of present] at step
    obtain ⟨k', present', step'⟩ := step.present (putPackage_get_same present _)
    exact ⟨k', present', by rw [step'.rest]⟩

theorem bufferIs_returnRead (buffer : BufferIs p b s) (v : Option Word) : BufferIs p b (returnRead s p v) := by
  obtain ⟨k, present, same⟩ := buffer
  cases v with
  | some w => exact ⟨_, (modifyPackage_get_same ..).trans (congrArg _ present), same⟩
  | none => exact ⟨_, (modifyPackage_get_same ..).trans (congrArg _ present), same⟩

theorem ensures_localRead_empties (reach : ReachesPage s p k s.platform.lu) (sel : BitVec 6) :
    Ensures (exec (localInstr sel p .read) s) (BufferIs p []) := by
  rw [exec_localInstr, localAccess, registerAccess_drains reach (a := .read) nofun, drainAll, withPackage_of _ reach.present]
  refine ensures_andThen (ensures_drainList_empties ⟨k, reach.present, rfl⟩) fun t empty => ?_
  exact ensures_functional fun _ _ => ensures_next (bufferIs_returnRead empty _)

/-! ### A posted write of the Task Priority Register (R371) -/

theorem and_tprMask (v : Word) : v &&& tprMask = (v.extractLsb' 0 8).setWidth 32 := by
  rw [indexWord_eq_append]
  calc v &&& tprMask
    _ = (v.extractLsb' 8 24 ++ v.extractLsb' 0 8) &&& (0#24 ++ BitVec.allOnes 8) := by
        rw [BitVec.extractLsb'_append_extractLsb']; rfl
    _ = 0#24 ++ v.extractLsb' 0 8 := by rw [BitVec.and_append, BitVec.and_allOnes, BitVec.and_zero]

theorem BusReady.buffered (ready : BusReady s p k) (b : List (Word × Word)) :
    BusReady (s.putPackage p { k with cpu := { k.cpu with wbuf := b } }) p { k with cpu := { k.cpu with wbuf := b } } :=
  ⟨ready.toReachesPage.buffered b, ready.usable, ready.released⟩

theorem BusReady.putLocal (ready : BusReady s p k) {u : LocalUnit} (prst : u.prst = k.lu.prst)
    (phase : u.intaPhase = k.lu.intaPhase) : BusReady (s.putLocal p k u) p { k with lu := u } where
  present := putLocal_get_same ready.present u
  wired := ready.wired
  running := by
    rw [← ready.running]
    simp only [cpuHeld, cpuReset, pinPrst, prst, phase]
  uncached := ready.uncached
  usable := ready.usable
  released := by
    rw [← ready.released]
    simp only [unitHeld, prst]

/-- R101: a buffered write reaches the register of its address. -/
theorem regWrite_localRegister {s : State} (memory : s.platform.lu.space = .memory) (sel : BitVec 6) (p : Nat) (v : Word) :
    regWrite p (registerAddress s.platform.lu sel) v s = localWrite p sel v s := by
  rw [regWrite, ← memory, addressTarget_localRegister]

/-- A write of a local unit register that drains reaches the unit of its processor. -/
theorem drainOne_localRegister (ready : BusReady s p k) (memory : s.platform.lu.space = .memory) {sel : BitVec 6} {v : Word}
    (buffer : k.cpu.wbuf = (registerAddress s.platform.lu sel, v) :: b) :
    drainOne p s = localWrite p sel v (s.putPackage p { k with cpu := { k.cpu with wbuf := b } }) := by
  rw [drainOne_of ready.present ready.wired ready.running buffer, setBuffer_of ready.present]
  exact regWrite_localRegister (s := s.putPackage p _) memory sel p v

theorem tprRead_afterPosted (ready : BusReady s p k) (memory : s.platform.lu.space = .memory) {v : Word}
    (buffer : k.cpu.wbuf = [(registerAddress s.platform.lu 0b001000#6, v)]) :
    exec (.luTpr p .read) s = .next (s.putPackage p
      { k with
        cpu := { k.cpu with wbuf := [], data := (v.extractLsb' 0 8).setWidth 32 }
        lu := dispense { k.lu with tpr := (v.extractLsb' 0 8).setWidth 32 } }) := by
  have ready₁ := ready.buffered []
  have ready₂ := ready₁.putLocal (u := dispense { k.lu with tpr := v &&& tprMask }) (dispense_prst _) (dispense_intaPhase _)
  calc exec (localInstr 0b001000#6 p .read) s
    _ = andThen (drainOne p s) (exec (localInstr 0b001000#6 p .read)) :=
        localRow_flush ready.toReachesPage buffer (a := .read) nofun _
    _ = andThen (localStore p (s.putPackage p { k with cpu := { k.cpu with wbuf := [] } })
          fun u => dispense { u with tpr := v &&& tprMask }) (exec (localInstr 0b001000#6 p .read)) := by
        rw [drainOne_localRegister ready memory buffer]; rfl
    _ = _ := by
        rw [localStore_of ready₁, andThen_next, localRow_read_some ready₂ rfl 0b001000#6 rfl, dispense_tpr, and_tprMask]
        simp only [State.received, State.putLocal, putPackage_put]

end

/-- Settles O14: an access is the drain of the whole buffer and then its effect; the drain of the oldest write leaves the access
as it was. -/
theorem accessFlushesBuffer : Obligations.AccessFlushesBuffer := by
  refine ⟨fun s p k w b a sel r buffer now => ⟨fun reach => ?localUnit, fun n i hn reach => ?ioUnit,
    fun reach inv request enabled flushes => ?acknowledge⟩,
    fun s t p k k' sel ready read present => ?empty, fun s p k v ready memory buffer => ?tpr⟩
  case localUnit =>
    have reach' : ReachesPage { s with input := r } p k s.platform.lu := { reach with }
    exact ⟨localRow_flush reach' buffer now sel, fun f c hc => commandRow_flush reach' buffer hc f⟩
  case ioUnit =>
    have reach' : IoBusReady { s with input := r } p n k := { reach with }
    rw [exec_ioInstr, exec_indexInstr]
    refine ⟨(ioAccess_flush reach' hn buffer now sel).trans ?_, (indexAccess_flush reach' hn buffer now i).trans ?_⟩
    · exact andThen_congr fun t _ => (exec_ioInstr ..).symm
    · exact andThen_congr fun t _ => (exec_indexInstr ..).symm
  case acknowledge =>
    have reach' : ReachesPage { s with input := r } p k s.platform.lu := { reach with }
    refine (intaFirst_flush reach' buffer inv request enabled flushes).trans (andThen_congr fun t drained => ?_)
    obtain ⟨-, input, -⟩ := ensures_drainOldest reach'.present reach'.wired reach'.running buffer t drained
    rw [onEvent_eq, ← show t.input = r from input]
    rfl
  case empty =>
    obtain ⟨k'', present'', empty⟩ := ensures_localRead_empties ready.toReachesPage sel t read
    exact Option.some.inj (present''.symm.trans present) ▸ empty
  case tpr => exact tprRead_afterPosted ready memory buffer

end Sys2Proof.Machine
end


section
/-!
PROOFS. The order of the write buffer (R85, R88): the oldest write drains as one that is not posted. What tells the two apart is the
processor of the package, which no register write reads or changes.
-/

namespace Sys2Proof.Machine

/-! ### Operations that do not see a processor -/

/-- At `s`, `F` neither depends on the processor of package `q` nor changes it. -/
def BlindTo (q : Nat) (F : State → Res) (s : State) : Prop :=
  ∀ g : Cpu → Cpu, F (modifyCpu s q g) = andThen (F s) fun t => .next (modifyCpu t q g)

/-- `f` commutes with every change of the processor of package `q`. -/
def CommutesWithCpu (q : Nat) (f : State → State) (s : State) : Prop :=
  ∀ g : Cpu → Cpu, f (modifyCpu s q g) = modifyCpu (f s) q g

section
variable {q p n : Nat} {s : State} {F G : State → Res} {f f' : State → State}

theorem blindTo_next (h : CommutesWithCpu q f s) : BlindTo q (fun s => .next (f s)) s := fun g =>
  congrArg _ (h g)

theorem blindTo_same : BlindTo q (fun s => .next s) s := fun _ => rfl

theorem blindTo_fault (e : Fault) : BlindTo q (fun _ => .fault e) s := fun _ => rfl

theorem blindTo_ite {c : Prop} [Decidable c] (yes : c → BlindTo q F s) (no : ¬c → BlindTo q G s) :
    BlindTo q (fun s => if c then F s else G s) s := by
  by_cases h : c
  · simpa only [h, if_true] using yes h
  · simpa only [h, if_false] using no h

theorem blindTo_comp (hf : CommutesWithCpu q f s) (h : BlindTo q F (f s)) : BlindTo q (fun s => F (f s)) s := fun g => by
  simp only [hf g, h g]

theorem CommutesWithCpu.comp (h' : CommutesWithCpu q f' (f s)) (h : CommutesWithCpu q f s) :
    CommutesWithCpu q (fun s => f' (f s)) s := fun g => by
  simp only [h g, h' g]

theorem modifyCpu_get_none (absent : s.packages[p]? = none) {g : Cpu → Cpu} : (modifyCpu s q g).packages[p]? = none := by
  rw [modifyCpu, modifyPackage_get, absent]
  split <;> rfl

theorem modifyCpu_get_some {k : Package} (present : s.packages[p]? = some k) (g : Cpu → Cpu) :
    ∃ c, (modifyCpu s q g).packages[p]? = some { k with cpu := c } := by
  rw [modifyCpu, modifyPackage_get, present]
  split
  · exact ⟨g k.cpu, rfl⟩
  · exact ⟨k.cpu, rfl⟩

/-- A step of package `p` that does not ask for its processor. -/
theorem blindTo_withPackage {F : Package → State → Res} (others : ∀ (k : Package) (c : Cpu), F { k with cpu := c } = F k)
    (h : ∀ k, s.packages[p]? = some k → BlindTo q (F k) s) : BlindTo q (fun s => withPackage s p fun k => F k s) s := by
  intro g
  cases present : s.packages[p]? with
  | none => simp only [withPackage, modifyCpu_get_none present, present, andThen_fault]
  | some k =>
    obtain ⟨c, present'⟩ := modifyCpu_get_some (q := q) present g
    simp only [withPackage_of _ present, withPackage_of _ present', others]
    exact h k present g

theorem blindTo_functional {F : Package → State → Res} (others : ∀ (k : Package) (c : Cpu), F { k with cpu := c } = F k)
    (h : ∀ k, s.packages[p]? = some k → BlindTo q (F k) s) : BlindTo q (fun s => functional s p fun k => F k s) s := by
  refine blindTo_withPackage (F := fun k s => if k.needsReset then .refused .needsHardwareReset else F k s)
    (fun k c => ?_) fun k present => blindTo_ite (fun _ _ => rfl) fun _ => h k present
  simp only [others]

/-! ### Changes that do not see a processor -/

theorem commutes_modifyPackage {f : Package → Package}
    (others : ∀ (k : Package) (c : Cpu), f { k with cpu := c } = { f k with cpu := c }) (kept : ∀ k, (f k).cpu = k.cpu) :
    CommutesWithCpu q (fun s => modifyPackage s p f) s := by
  intro g
  simp only [modifyCpu, modifyPackage]
  congr 1
  apply List.ext_getElem?
  intro i
  simp only [List.getElem?_modify]
  cases s.packages[i]? with
  | none => simp
  | some k =>
    have both : f { k with cpu := g k.cpu } = { f k with cpu := g (f k).cpu } := by rw [others, kept]
    by_cases hp : p = i <;> by_cases hq : q = i <;> simp [hp, hq, both]

theorem commutes_modifyLocal (f : LocalUnit → LocalUnit) : CommutesWithCpu q (fun s => modifyLocal s p f) s :=
  commutes_modifyPackage (fun _ _ => rfl) fun _ => rfl

theorem commutes_modifyIo (f : IoUnit → IoUnit) : CommutesWithCpu q (fun s => modifyIo s n f) s :=
  commutes_modifyPackage (fun _ _ => rfl) fun _ => rfl

theorem commutes_sendMessage (m : Message) : CommutesWithCpu q (fun s => sendMessage s m) s := fun _ => rfl

theorem commutes_storeRemote (v : Option Word) : CommutesWithCpu q (fun s => storeRemote s p v) s := fun g =>
  commutes_modifyLocal (s := { s with fresh := remoteFresh s v })
    (fun u => { u with remote := remoteValue s v, icrLow := setReadStatus u.icrLow readValid }) g

/-! ### Writes of a local unit register -/

theorem blindTo_localStore (f : LocalUnit → LocalUnit) : BlindTo q (fun s => localStore p s f) s :=
  blindTo_functional (fun _ _ => rfl) fun _ _ => blindTo_ite (fun _ => blindTo_same) fun _ =>
    blindTo_next (commutes_modifyLocal f)

theorem blindTo_localIgnore : BlindTo q (fun s => localIgnore p s) s :=
  blindTo_functional (fun _ _ => rfl) fun _ _ => blindTo_same

theorem blindTo_writeReserved : BlindTo q (fun s => writeReserved p s) s :=
  blindTo_functional (fun _ _ => rfl) fun _ _ => blindTo_ite (fun _ => blindTo_same) fun _ => blindTo_next fun _ => rfl

theorem blindTo_writeSvr (v : Word) : BlindTo q (fun s => writeSvr p v s) s :=
  blindTo_functional (fun _ _ => rfl) fun _ _ => blindTo_ite (fun _ => blindTo_same) fun _ =>
    blindTo_ite (fun _ => blindTo_fault _) fun _ => blindTo_next (commutes_modifyLocal _)

/-- A unit that is not reset is not released, so that its processor does not start. -/
theorem releaseByMessage_eq_self {k : Package} (present : s.packages[p]? = some k) (released : k.lu.prst = false) :
    releaseByMessage s p = s := by
  rw [releaseByMessage, modifyPackage_of present]
  simp only [released]
  exact putPackage_self present

theorem commutes_deliverSelf {k : Package} {u : LocalUnit} {m : Message} (present : s.packages[p]? = some k)
    (released : k.lu.prst = false) (deassert : m.mode = .reset → m.level = false) :
    CommutesWithCpu q (deliverSelf p u m) s := by
  intro g
  unfold deliverSelf
  cases mode : m.mode with
  | fixed | lowestPriority | extInt | nmi => exact commutes_modifyLocal _ g
  | remoteRead => exact commutes_storeRemote _ g
  | reset =>
    simp only [deassert mode]
    obtain ⟨c, present'⟩ := modifyCpu_get_some (q := q) present g
    exact (releaseByMessage_eq_self present' released).trans
      (congrArg (modifyCpu · q g) (releaseByMessage_eq_self present released).symm)

theorem commutes_issueCommand {k : Package} {mode : DeliveryMode} {w : Word} (present : s.packages[p]? = some k)
    (released : k.lu.prst = false) (allowed : restricted mode w k.lu.icrHigh = false) :
    CommutesWithCpu q (issueCommand p k.lu mode w) s := by
  have stores (w : Word) : CommutesWithCpu q (fun s => storeIcrLow s p w) s := commutes_modifyLocal _
  by_cases self : shorthandOf w = .self
  · have deassert (reset : mode = .reset) : levelOf w = false := by
      subst reset
      simpa [restricted, self] using allowed
    have stored : (storeIcrLow s p w).packages[p]? = some { k with lu := { k.lu with icrLow := w } } := by
      rw [storeIcrLow, modifyLocal_of present, putLocal_get_same present]
    have delivered := commutes_deliverSelf (q := q) (u := { k.lu with icrLow := w }) (m := commandMessage p k.lu mode w) stored
      released deassert
    intro g
    simp only [issueCommand, self, if_true]
    exact (delivered.comp (stores w)) g
  · intro g
    simp only [issueCommand, self, if_false]
    exact ((commutes_sendMessage _).comp (stores _)) g

theorem blindTo_writeIcrLow (v : Word) : BlindTo q (fun s => writeIcrLow p v s) s := by
  refine blindTo_functional (fun _ _ => rfl) fun k present => blindTo_ite (fun _ => blindTo_same) fun free =>
    blindTo_ite (fun _ => blindTo_fault _) fun _ => ?_
  have released : k.lu.prst = false := by simp_all [unitHeld]
  dsimp only
  cases deliveryModeOf (modeCodeOf (storedCommand k.lu v)) with
  | none => exact blindTo_fault _
  | some mode =>
    exact blindTo_ite (fun _ => blindTo_fault _) fun allowed => blindTo_ite
      (fun _ => blindTo_next (commutes_issueCommand present released (Bool.eq_false_iff.2 allowed))) fun _ => blindTo_fault _

theorem blindTo_localWrite (sel : BitVec 6) (v : Word) : BlindTo q (fun s => localWrite p sel v s) s := by
  unfold localWrite
  split
  · exact blindTo_localStore _
  · exact blindTo_localIgnore
  · exact blindTo_localStore _
  · exact blindTo_localStore _
  · exact blindTo_localIgnore
  · exact blindTo_localStore _
  · exact blindTo_localStore _
  · exact blindTo_writeSvr v
  · exact blindTo_writeIcrLow v
  · exact blindTo_localStore _
  · exact blindTo_localStore _
  · exact blindTo_localStore _
  · exact blindTo_localStore _
  · exact blindTo_localStore _
  · exact blindTo_localIgnore
  · exact blindTo_localStore _
  · exact blindTo_ite (fun _ => blindTo_localIgnore) fun _ => blindTo_ite (fun _ => blindTo_localIgnore) fun _ =>
      blindTo_ite (fun _ => blindTo_localIgnore) fun _ => blindTo_writeReserved

/-! ### Writes of an I/O unit register -/

theorem blindTo_ioStore (h : BlindTo q F s) : BlindTo q (fun s => ioStore n s F) s :=
  blindTo_functional (fun _ _ => rfl) fun _ _ => blindTo_ite (fun _ => blindTo_same) fun _ => h

theorem blindTo_ioSend (k : Fin 16) (lvl : Bool) (u : IoUnit) : BlindTo q (ioSend n k lvl u) s := by
  unfold ioSend
  cases deliveryModeOf (modeCodeOf (lowWord (u.rt.get k))) with
  | none => exact blindTo_fault _
  | some mode =>
    exact blindTo_ite (fun _ => blindTo_fault _) fun _ => blindTo_ite
      (fun _ => blindTo_next ((commutes_sendMessage _).comp (commutes_modifyIo _))) fun _ => blindTo_fault _

theorem blindTo_followLevel (k : Fin 16) : BlindTo q (followLevel n k) s :=
  blindTo_withPackage (fun _ _ => rfl) fun _ _ => blindTo_ite
    (fun _ => blindTo_comp (commutes_modifyIo _) (blindTo_ioSend k _ _)) fun _ => blindTo_same

theorem blindTo_indexWrite (i : Byte) (v : Word) : BlindTo q (indexWrite n i v) s :=
  blindTo_ite (fun _ => blindTo_next (commutes_modifyIo _)) fun _ => blindTo_ite (fun _ => blindTo_same) fun _ =>
    blindTo_ite (fun _ => blindTo_ite (fun _ => blindTo_next (commutes_modifyIo _))
      fun _ => blindTo_comp (commutes_modifyIo _) (blindTo_followLevel _)) fun _ => blindTo_next fun _ => rfl

theorem blindTo_ioWrite (sel : BitVec 6) (v : Word) : BlindTo q (ioWrite n sel v) s := by
  unfold ioWrite
  split
  · exact blindTo_ioStore (blindTo_next (commutes_modifyIo _))
  · exact blindTo_ioStore (blindTo_withPackage (fun _ _ => rfl) fun _ _ => blindTo_indexWrite _ v)
  · exact blindTo_ioStore (blindTo_next fun _ => rfl)

/-! ### The write that drains (R85, R88) -/

/-- Every write of a local unit register is a functional step of its package (R368). -/
theorem localWrite_refused {k : Package} (present : s.packages[p]? = some k) (due : k.needsReset = true) (sel : BitVec 6)
    (v : Word) : localWrite p sel v s = .refused .needsHardwareReset := by
  have refused (f : Package → Res) : functional s p f = .refused .needsHardwareReset := functional_refused f present due
  unfold localWrite
  split
  case h_17 => split_ifs <;> exact refused _
  all_goals exact refused _

theorem localStore_of_released {k : Package} (present : s.packages[p]? = some k) (usable : k.needsReset = false)
    (released : unitHeld k = false) (f : LocalUnit → LocalUnit) :
    localStore p s f = .next (s.putLocal p k (f k.lu)) := by
  rw [localStore, functional_of _ present usable, if_neg (by simp [released]), modifyLocal_of present]

theorem regWrite_ioRegister {n : Nat} (apart : (s.platform.lu :: s.platform.ious).Nodup) (hn : n < s.platform.ious.length)
    (memory : (ioLocation s.platform n).space = .memory) (sel : BitVec 6) (p : Nat) (v : Word) :
    regWrite p (registerAddress (ioLocation s.platform n) sel) v s = ioWrite n sel v s := by
  rw [regWrite, ← memory, addressTarget_ioRegister apart hn]

end

/-- `s` with the buffer of processor `p`, of package `k`, empty and its page mapped uncached, so that it may write at once. -/
def State.unbuffered (s : State) (p : Nat) (k : Package) : State :=
  s.putPackage p { k with cpu := { k.cpu with wbuf := [], pageUncached := true } }

/-- The processor gets back the rest `b` of its buffer, and its mapping of the page. -/
def rebuffer (k : Package) (b : List (Word × Word)) (c : Cpu) : Cpu :=
  { c with wbuf := b, pageUncached := k.cpu.pageUncached }

section
variable {s : State} {p : Nat} {k : Package} {b : List (Word × Word)}

theorem setBuffer_eq_rebuffer (present : s.packages[p]? = some k) (b : List (Word × Word)) :
    setBuffer s p b = modifyCpu (s.unbuffered p k) p (rebuffer k b) := by
  rw [setBuffer_of present, State.unbuffered, modifyCpu_of (putPackage_get_same present _), putPackage_put]
  rfl

theorem reachesPage_unbuffered (present : s.packages[p]? = some k) (wired : k.hasCpu = true) (running : cpuHeld k = false)
    (l : Location) :
    ReachesPage (s.unbuffered p k) p { k with cpu := { k.cpu with wbuf := [], pageUncached := true } } l :=
  ⟨putPackage_get_same present _, wired, running, fun _ => rfl⟩

/-- A write that sees no processor does the same as the write of an empty buffer, whatever follows it. -/
theorem BlindTo.afterRebuffer {F : State → Res} (present : s.packages[p]? = some k)
    (blind : BlindTo p F (s.unbuffered p k)) :
    F (setBuffer s p b) = andThen (F (s.unbuffered p k)) fun t => .next (modifyCpu t p (rebuffer k b)) := by
  rw [setBuffer_eq_rebuffer present]
  exact blind _

end

/-- Settles O15: the oldest write is one of an empty buffer, but for a processor that no register write sees. -/
theorem drainsOldestFirst : Obligations.DrainsOldestFirst := by
  intro s p k sel v b r present wired running
  have present' : ({ s with input := r } : State).packages[p]? = some k := present
  have drains {w : Word × Word} (buffer : k.cpu.wbuf = w :: b) :
      onEvent s (.drain p) r = regWrite p w.1 w.2 (setBuffer { s with input := r } p b) :=
    (onEvent_eq ..).trans (drainOne_of present' wired running buffer)
  have reach := reachesPage_unbuffered present' wired running
  have buffered : (setBuffer { s with input := r } p b).packages[p]? = some { k with cpu := { k.cpu with wbuf := b } } := by
    rw [setBuffer_of present', putPackage_get_same present']
  refine ⟨fun memory buffer => ?localUnit, fun n apart hn memory buffer => ?ioUnit⟩
  case localUnit =>
    have write : onEvent s (.drain p) r = localWrite p sel v (setBuffer { s with input := r } p b) :=
      (drains buffer).trans (regWrite_localRegister (s := setBuffer { s with input := r } p b) memory sel p v)
    refine ⟨write.trans ?_, fun due => ?_, fun icrHigh usable released => ?_⟩
    · refine (BlindTo.afterRebuffer present' (blindTo_localWrite sel v)).trans ?_
      rw [← localRow_write (reach _) rfl]
      rfl
    · rw [write]
      exact localWrite_refused buffered due sel v
    · subst icrHigh
      rw [write]
      refine (localStore_of_released buffered usable released fun u => { u with icrHigh := v }).trans ?_
      rw [setBuffer_of present', State.putLocal, putPackage_put]
      rfl
  case ioUnit =>
    refine (drains buffer).trans ((regWrite_ioRegister (s := setBuffer { s with input := r } p b) apart hn memory sel p v).trans ?_)
    refine (BlindTo.afterRebuffer present' (blindTo_ioWrite sel v)).trans ?_
    rw [← ioAccess_write (reach _) rfl hn, ← exec_ioInstr]
    rfl

end Sys2Proof.Machine
end


section
/-!
PROOFS. Cycles of a processor that stand for no row of the table: incomplete accesses (R83, U3), I/O space (R95, R299), and memory as each
processor sees it (R81, R84, R91, R93).
-/

namespace Sys2Proof.Machine

/-! ### Cycles outside the registers -/

theorem any_accessAddresses {a : Word} {n : Nat} {f : Word → Bool} :
    (accessAddresses a n).any f = true ↔ ∃ i, i < n ∧ f (a + BitVec.ofNat 32 i) = true := by
  simp [accessAddresses]

theorem inDevicePage_iff {pf : Platform} {sp : Space} {a : Word} :
    inDevicePage pf sp a = true ↔ addressTarget pf sp a ≠ .outside := by simp [inDevicePage]

section
variable {s : State} {k : Package} {c : Cycle} {sp : Space}

theorem runCycle_incomplete (port : c.port = spacePort sp) (target : addressTarget s.platform sp c.word ≠ .outside)
    (part : c.width ≠ .dword ∨ c.word.extractLsb' 0 4 ≠ 0#4) :
    runCycle c s = busGate sp c.agent s fun _ => .fault .partialOrOffsetAccess := by
  have notWhole : (c.width == .dword && aligned c.word) = false := by
    obtain width | offset := part
    · simp [width]
    · simp [aligned, offset]
  have decodes : decode s.platform c = .error .partialOrOffsetAccess := by
    rw [decode_of_spacePort port, decodeBus]
    split
    · exact absurd ‹_› target
    · rw [notWhole]; rfl
    · rw [notWhole]; rfl
  have space : cycleSpace s.platform c = sp := by
    rw [cycleSpace, port]
    cases sp <;> rfl
  rw [runCycle, decodes]
  change busGate (cycleSpace s.platform c) c.agent s (fun _ => .fault .partialOrOffsetAccess) = _
  rw [space]

theorem decode_outside (port : c.port = spacePort sp) (target : addressTarget s.platform sp c.word = .outside) :
    decode s.platform c = .error .outsideDevices := by
  rw [decode_of_spacePort port, decodeBus, target]

theorem runCycle_memory (port : c.port = .bus) (target : addressTarget s.platform .memory c.word = .outside) :
    runCycle c s = memoryAccess c s := by
  rw [runCycle, decode_outside (sp := .memory) port target]
  exact if_neg (by simp [port])

theorem runCycle_io (port : c.port = .ioSpace) (target : addressTarget s.platform .io c.word = .outside) :
    runCycle c s = ioSpaceAccess c s := by
  rw [runCycle, decode_outside (sp := .io) port target]
  exact if_pos port

variable (present : s.packages[c.agent]? = some k) (wired : k.hasCpu = true) (running : cpuHeld k = false)
include present wired running

theorem busGate_of (uncached : sp = .memory → k.cpu.pageUncached = true) (f : Package → Res) : busGate sp c.agent s f = f k := by
  have mapped : ¬(sp = .memory ∧ k.cpu.pageUncached = false) := fun h => by simp [uncached h.1] at h
  rw [busGate, withProcessor_of _ present wired, if_neg (by simp [running]), if_neg mapped]

theorem outsideRegisters_into
    (into : ∃ i, i < widthBytes c.width ∧ addressTarget s.platform sp (c.word + BitVec.ofNat 32 i) ≠ .outside)
    (f : Package → Res) : outsideRegisters sp c s f = .fault .partialOrOffsetAccess := by
  rw [outsideRegisters, withProcessor_of _ present wired, if_neg (by simp [running]),
    if_pos (any_accessAddresses.2 (by simpa only [inDevicePage_iff] using into))]

theorem outsideRegisters_clear
    (clear : ∀ i, i < widthBytes c.width → addressTarget s.platform sp (c.word + BitVec.ofNat 32 i) = .outside)
    (f : Package → Res) : outsideRegisters sp c s f = f k := by
  have none : ¬(accessAddresses c.word (widthBytes c.width)).any (inDevicePage s.platform sp) = true := by
    rw [any_accessAddresses]
    rintro ⟨i, hi, page⟩
    exact inDevicePage_iff.1 page (clear i hi)
  rw [outsideRegisters, withProcessor_of _ present wired, if_neg (by simp [running]), if_neg none]

end

/-! ### I/O space (R95, R299) -/

/-- R299: the decoder compares SA9 to SA3 with the range that ADDSEL chooses. -/
theorem selectsFloppy_iff (pf : Platform) (a : Word) :
    selectsFloppy pf a = true ↔ a.extractLsb' 3 7 = if pf.addsel then 0b1111110#7 else 0b1101110#7 := by
  cases h : pf.addsel <;> simp [selectsFloppy, pldSelect, h]

/-- Settles O60: incomplete accesses stop behind the gate of a register access, the others where the bytes lie. -/
theorem otherCycles : Obligations.OtherCycles := by
  rintro s p k c sp r present wired running rfl port
  have present' : ({ s with input := r } : State).packages[c.agent]? = some k := present
  rw [onCycle_eq]
  refine ⟨fun target part uncached => ?partialAccess, fun target => ⟨fun into => ?runsInto, fun clear io => ?ioSpace⟩⟩
  case partialAccess =>
    exact (runCycle_incomplete (s := { s with input := r }) port target part).trans
      (busGate_of present' wired running uncached _)
  case runsInto =>
    cases sp with
    | memory =>
      exact (runCycle_memory (s := { s with input := r }) port target).trans
        (outsideRegisters_into present' wired running into _)
    | io =>
      exact (runCycle_io (s := { s with input := r }) port target).trans
        (outsideRegisters_into present' wired running into _)
  case ioSpace =>
    subst io
    refine (runCycle_io (s := { s with input := r }) port target).trans
      ((outsideRegisters_clear present' wired running clear _).trans ?_)
    exact if_congr (by simp only [any_accessAddresses, selectsFloppy_iff]) rfl rfl

/-! ### Bytes of a word (R84) -/

/-- The byte `i` of a number, the least significant first. -/
theorem byte_eq_extractLsb' (v : Word) (i : Nat) : BitVec.ofNat 8 (v.toNat / 256 ^ i) = v.extractLsb' (8 * i) 8 := by
  apply BitVec.eq_of_toNat_eq
  rw [BitVec.toNat_ofNat, BitVec.extractLsb'_toNat, Nat.shiftRight_eq_div_pow, Nat.pow_mul]

theorem memRead_writeBytes {m : List Host.Cell} (h : Memory.wf m = true) {l : List Word} (distinct : l.Nodup) (v : Nat) {i : Nat}
    (hi : i < l.length) : memRead (writeBytes m v l) l[i].toNat = BitVec.ofNat 8 (v / 256 ^ i) := by
  induction l generalizing m v i with
  | nil => simp at hi
  | cons a r ih =>
    obtain ⟨fresh, distinct'⟩ := List.nodup_cons.1 distinct
    have wf : Memory.wf (memWrite m a.toNat (BitVec.ofNat 8 v)) = true := wfFrom_memWrite h (Nat.zero_le _) a.isLt _
    cases i with
    | zero =>
      have other : ∀ b ∈ r, b.toNat ≠ a.toNat := fun b mem same => fresh (BitVec.eq_of_toNat_eq same ▸ mem)
      rw [writeBytes, List.getElem_cons_zero, memRead_writeBytes_outside wf _ _ _ other, memRead_memWrite h, if_pos rfl]
      simp
    | succ i =>
      rw [writeBytes, List.getElem_cons_succ, ih wf distinct', Nat.div_div_eq_div_mul, Nat.pow_succ']

theorem readBytes_of_bytes {m : List Host.Cell} {l : List Word} {v : Nat}
    (bytes : ∀ (i : Nat) (hi : i < l.length), memRead m l[i].toNat = BitVec.ofNat 8 (v / 256 ^ i)) :
    readBytes m l = v % 256 ^ l.length := by
  induction l generalizing v with
  | nil => simp [readBytes, Nat.mod_one]
  | cons a r ih =>
    have first := bytes 0 (by simp)
    have rest : readBytes m r = v / 256 % 256 ^ r.length := ih fun i hi => by
      have next := bytes (i + 1) (by simpa using hi)
      rwa [List.getElem_cons_succ, Nat.pow_succ', ← Nat.div_div_eq_div_mul] at next
    rw [List.getElem_cons_zero, Nat.pow_zero, Nat.div_one] at first
    rw [readBytes, first, rest, List.length_cons, Nat.pow_succ', Nat.mod_mul, BitVec.toNat_ofNat]

theorem readWord_eq (v : Word) (n : Nat) :
    BitVec.ofNat 32 (v.toNat % 256 ^ n) = (v.extractLsb' 0 (8 * n)).setWidth 32 := by
  apply BitVec.eq_of_toNat_eq
  rw [BitVec.toNat_ofNat, BitVec.toNat_setWidth, BitVec.extractLsb'_toNat, Nat.shiftRight_zero, Nat.pow_mul]

theorem pendingStores_eq_mapIdx (q v : Nat) (l : List Word) :
    pendingStores q v l = l.mapIdx fun i a => ⟨q, a, BitVec.ofNat 8 (v / 256 ^ i)⟩ := by
  induction l generalizing v with
  | nil => rfl
  | cons a r ih => simp [pendingStores, ih, List.mapIdx_cons, Nat.div_div_eq_div_mul, Nat.pow_succ']

/-! ### The addresses of an access (R81, R91) -/

@[simp] theorem accessAddresses_length (a : Word) (n : Nat) : (accessAddresses a n).length = n := by simp [accessAddresses]

@[simp] theorem accessAddresses_getElem (a : Word) (n : Nat) {i : Nat} (hi : i < (accessAddresses a n).length) :
    (accessAddresses a n)[i] = a + BitVec.ofNat 32 i := by simp [accessAddresses]

theorem accessAddresses_nodup (a : Word) (w : Width) : (accessAddresses a (widthBytes w)).Nodup := by
  have few : widthBytes w ≤ 4 := by cases w <;> decide
  refine List.Nodup.map_on (fun i hi j hj same => ?_) List.nodup_range
  rw [List.mem_range] at hi hj
  bv_omega

theorem mem_accessAddresses {a b : Word} {n : Nat} : b ∈ accessAddresses a n ↔ ∃ i, i < n ∧ b = a + BitVec.ofNat 32 i := by
  simp [accessAddresses, eq_comm]

/-- The bytes that the other processors do not see yet: each byte of the access, once for each of them. -/
theorem mem_unseen {s : State} {p : Nat} {a v : Word} {n : Nat} {x : Store} :
    (x ∈ (observers p s).flatMap fun q => pendingStores q v.toNat (accessAddresses a n)) ↔
      ∃ (q : Nat) (kq : Package) (i : Nat), q ≠ p ∧ s.packages[q]? = some kq ∧ kq.hasCpu = true ∧ i < n ∧
        x = ⟨q, a + BitVec.ofNat 32 i, v.extractLsb' (8 * i) 8⟩ := by
  simp only [List.mem_flatMap, mem_observers, pendingStores_eq_mapIdx, List.mem_mapIdx, accessAddresses_length,
    accessAddresses_getElem, byte_eq_extractLsb']
  constructor
  · rintro ⟨q, ⟨other, kq, present, wired⟩, i, hi, rfl⟩
    exact ⟨q, kq, i, other, present, wired, hi, rfl⟩
  · rintro ⟨q, kq, i, other, present, wired, hi, rfl⟩
    exact ⟨q, ⟨other, kq, present, wired⟩, i, hi, rfl⟩

/-! ### Memory cycles -/

/-- A cycle of processor `p` in memory space (R80, log 3). -/
abbrev memoryCycle (p : Nat) (w : Width) (acc : Access) (a : Word) : Cycle := ⟨.bus, p, 0, w, acc, a, []⟩

theorem runCycle_memoryCycle {s : State} {p : Nat} {a : Word} {w : Width}
    (clear : ∀ i : Nat, i < widthBytes w → addressTarget s.platform .memory (a + BitVec.ofNat 32 i) = .outside) (acc : Access) :
    runCycle (memoryCycle p w acc a) s = memoryAccess (memoryCycle p w acc a) s := by
  have first : 0 < widthBytes w := by cases w <;> decide
  exact runCycle_memory rfl (by simpa using clear 0 first)

section
variable {s : State} {p : Nat} {k : Package} {a : Word} {w : Width}
  (present : s.packages[p]? = some k) (wired : k.hasCpu = true) (running : cpuHeld k = false)
  (clear : ∀ i : Nat, i < widthBytes w → addressTarget s.platform .memory (a + BitVec.ofNat 32 i) = .outside)
include present wired running clear

theorem runCycle_memoryWrite (v : Word) (b : Bool) :
    runCycle (memoryCycle p w (.write v b) a) s =
      .next (memoryStore p v.toNat (accessAddresses a (widthBytes w)) s) := by
  rw [runCycle_memoryCycle clear]
  exact outsideRegisters_clear (c := memoryCycle p w (.write v b) a) present wired running clear _

theorem runCycle_memoryRead :
    runCycle (memoryCycle p w .read a) s =
      .next (s.received p k (BitVec.ofNat 32 (readBytes k.view (accessAddresses a (widthBytes w))))) := by
  rw [runCycle_memoryCycle clear, ← returnData_of present]
  exact outsideRegisters_clear (c := memoryCycle p w .read a) present wired running clear _

end

/-- Settles O59: a write changes the view of its processor byte by byte and leaves the bytes unseen; each comes into sight alone. -/
theorem memoryViews : Obligations.MemoryViews := by
  refine ⟨fun s p k a v w b r present wired running wf clear => ?own, fun s i x k r unseen present wf => ?others⟩
  case own =>
    have bytes (i : Nat) (hi : i < (accessAddresses a (widthBytes w)).length) :=
      memRead_writeBytes wf (accessAddresses_nodup a w) v.toNat hi
    refine ⟨_, _, writeBytes k.view v.toNat (accessAddresses a (widthBytes w)),
      (observers p s).flatMap fun q => pendingStores q v.toNat (accessAddresses a (widthBytes w)), ?write, rfl,
      fun i hi => ?written, fun x other => ?kept, fun x => mem_unseen, ?read, rfl⟩
    case write =>
      rw [onCycle_eq]
      refine (runCycle_memoryWrite (s := { s with input := .op (memoryCycle p w .read a) :: r }) present wired running clear v b).trans ?_
      exact congrArg _ (memoryStore_of (s := { s with input := .op (memoryCycle p w .read a) :: r }) present ..)
    case written =>
      rw [← byte_eq_extractLsb', ← accessAddresses_getElem a (widthBytes w) (by simpa using hi)]
      exact bytes i _
    case kept =>
      refine memRead_writeBytes_outside wf _ _ _ fun y mem => ?_
      obtain ⟨i, hi, rfl⟩ := mem_accessAddresses.1 mem
      exact (other i hi).symm
    case read =>
      have present' := putPackage_get_same present
        { k with view := writeBytes k.view v.toNat (accessAddresses a (widthBytes w)) }
      rw [step_op rfl]
      refine (runCycle_memoryRead (s := { s.putPackage p _ with unseen := _, input := r }) present' wired running clear).trans ?_
      rw [readBytes_of_bytes bytes, accessAddresses_length, readWord_eq]
      simp only [State.received, State.putPackage, List.set_set]
  case others =>
    refine ⟨memWrite k.view x.addr.toNat x.byte, ?_, fun b => memRead_memWrite wf ..⟩
    rw [onEvent_eq]
    exact congrArg _ (storeSeen_of (s := { s with input := r }) unseen present)

end Sys2Proof.Machine
end


section
/-!
PROOFS. The rows without a meaning: the reserved delivery mode codes (R48, R128, U6), the JTAG opcodes without an effect (R256, U10).
-/

namespace Sys2Proof.Machine

/-- R42, R48: the row of a code that names a delivery mode writes the ICR low word; the row of another stops. -/
theorem exec_commandInstr (mode : BitVec 3) (p : Nat) (f : CommandFields) (s : State) :
    exec (commandInstr mode p f) s =
      if (deliveryModeOf mode).isSome then commandAccess p (commandWord mode f) s else .fault .icrCombination := by
  obtain ⟨mode⟩ := mode
  fin_cases mode <;> rfl

/-- R120, R256: the row of a listed opcode is a scan; the row of another is refused. -/
theorem exec_jtagInstr (op : BitVec 4) (k : Nat) (tdi : List Bool) (s : State) :
    exec (jtagInstr op k tdi) s = if listedOpcode op then loadAndScan k op tdi s else .refused .jtagOpcode := by
  obtain ⟨op⟩ := op
  fin_cases op <;> rfl

theorem exec_commandInstr_of_reserved {mode : BitVec 3} (h : deliveryModeOf mode = none) (p : Nat) (f : CommandFields)
    (s : State) : exec (commandInstr mode p f) s = .fault .icrCombination := by
  rw [exec_commandInstr, h]
  rfl

theorem exec_jtagInstr_of_unlisted {op : BitVec 4} (h : listedOpcode op = false) (k : Nat) (tdi : List Bool) (s : State) :
    exec (jtagInstr op k tdi) s = .refused .jtagOpcode := by
  rw [exec_jtagInstr, h]
  rfl

/-- R256: the reserved opcode and the eleven that no row of the sources lists. -/
def unlistedOpcodes : List (BitVec 4) :=
  [0b1001#4, 0b0011#4, 0b0100#4, 0b0101#4, 0b0110#4, 0b0111#4, 0b1000#4, 0b1010#4, 0b1011#4, 0b1100#4, 0b1101#4, 0b1110#4]

theorem mem_unlistedOpcodes : ∀ op : BitVec 4, op ∈ unlistedOpcodes ↔ listedOpcode op = false := by decide

/-- Settles O25: the two codes name no delivery mode, and the twelve rows are those of the opcodes that are not listed. -/
theorem reservedCodesStop : Obligations.ReservedCodesStop := by
  intro s p f l
  refine ⟨exec_commandInstr_of_reserved (mode := 0b010#3) rfl p f s,
    exec_commandInstr_of_reserved (mode := 0b110#3) rfl p f s, ?opcodes⟩
  case opcodes =>
    refine List.forall_mem_map (l := unlistedOpcodes) (f := jtagInstr).2 fun op unlisted => ?_
    exact exec_jtagInstr_of_unlisted ((mem_unlistedOpcodes op).1 unlisted) p l s

end Sys2Proof.Machine
end


section
/-!
PROOFS. Writes of an I/O unit's registers through SELECT and the window (R61, R113, R200 to R202, R205): what a write of an index does
to the unit, apart from what it makes an entry send.
-/

namespace Sys2Proof.Machine

/-! ### Updates of an I/O unit whose content is known -/

section
variable {s : State} {n : Nat} {kn : Package}

theorem putIo_get_same (present : s.packages[n]? = some kn) (u : IoUnit) :
    (s.putIo n kn u).packages[n]? = some { kn with iou := u } := putPackage_get_same present _

theorem putIo_put (s : State) (n : Nat) (kn : Package) (u u' : IoUnit) :
    (s.putIo n kn u).putIo n { kn with iou := u } u' = s.putIo n kn u' := putPackage_put ..

theorem modifyIo_putIo (present : s.packages[n]? = some kn) (u : IoUnit) (f : IoUnit → IoUnit) :
    modifyIo (s.putIo n kn u) n f = s.putIo n kn (f u) := by
  rw [modifyIo_of (putIo_get_same present u), putIo_put]

end

/-! ### The direct registers (R200, R201) -/

section
variable {s : State} {p n : Nat} {k kn : Package}

/-- R200: bits 31:8 of a word written to SELECT are stored as 0. -/
theorem writeSelect_of (ready : IoReady s n kn) (v : Word) :
    writeSelect n v s = .next (s.putIo n kn { kn.iou with select := (v.extractLsb' 0 8).setWidth 32 }) := by
  rw [writeSelect, ioStore_of ready, modifyIo_of ready.present, ← and_tprMask]
  rfl

theorem writeWindow_of (ready : IoReady s n kn) (v : Word) :
    writeWindow n v s = indexWrite n (selectedIndex kn.iou) v s := by
  rw [writeWindow, ioStore_of ready, withPackage_of _ ready.present]

theorem writeIoReserved_of (ready : IoReady s n kn) : writeIoReserved n s = .next (flagReserved s) := ioStore_of ready _

theorem ioWrite_of_reserved {sel : BitVec 6} (h : directSelectorReserved sel) (n : Nat) (v : Word) (s : State) :
    ioWrite n sel v s = writeIoReserved n s := by
  unfold ioWrite
  split
  case h_1 zero => omega
  case h_2 one => omega
  case h_3 => rfl

theorem windowAccess_read_some (reach : IoBusReady s p n k) (empty : k.cpu.wbuf = []) (ready : IoReady s n kn) {w : Word}
    (names : indexRead (selectedIndex kn.iou) kn.iou = some w) :
    ioAccess p n 1#6 .read s = .next (s.received p k w) := by
  rw [ioAccess_read reach empty ready, ← returnData_of reach.present]
  change Host.Outcome.next (returnRead s p (indexRead (selectedIndex kn.iou) kn.iou)) = _
  rw [names, returnRead]

theorem windowAccess_write (reach : IoBusReady s p n k) (empty : k.cpu.wbuf = []) (ready : IoReady s n kn) (v : Word) :
    ioAccess p n 1#6 (.write v false) s = indexWrite n (selectedIndex kn.iou) v s := by
  rw [ioAccess_write reach empty ready.mapped]
  exact writeWindow_of ready v

/-- R113, R201: a write of an index is a write of the register it names, SELECT already holding the index. -/
theorem indexAccess_write (reach : IoBusReady s p n k) (empty : k.cpu.wbuf = []) (ready : IoReady s n kn) (i : Byte)
    (v : Word) : indexAccess p n i (.write v false) s = indexWrite n i v (s.selected n kn i) := by
  obtain ⟨k', reach', cpu⟩ := ioBusReady_selected reach ready i
  have empty' : k'.cpu.wbuf = [] := cpu ▸ empty
  simp only [indexAccess, ioAccess_select reach empty ready, andThen_next,
    windowAccess_write reach' empty' (ioReady_selected ready i), selectedIndex_selected]

/-- The select of an index that SELECT holds already changes nothing. -/
theorem selected_eq_self (present : s.packages[n]? = some kn) {i : Byte} (held : kn.iou.select = i.setWidth 32) :
    s.selected n kn i = s := by
  rw [State.selected, ← held]
  exact putPackage_self present

/-- Settles O33: each row is an access to selector 0, which reads SELECT and stores the low byte of the word. -/
theorem ioDirectRegisters : Obligations.IoDirectRegisters := by
  intro s p n k kn v reach empty ready
  constructor
  · calc ioAccess p n 0#6 .read s
      _ = .next (returnData s p kn.iou.select) := ioAccess_read reach empty ready 0#6
      _ = .next (s.received p k kn.iou.select) := by rw [returnData_of reach.present]
  · calc ioAccess p n 0#6 (.write v false) s
      _ = writeSelect n v s := ioAccess_write reach empty ready.mapped 0#6 v
      _ = _ := writeSelect_of ready v

end

/-! ### The register an index names (R201, R205) -/

section
variable {s : State} {n : Nat} {kn : Package} {u : IoUnit}

theorem indexWrite_id (present : s.packages[n]? = some kn) (v : Word) :
    indexWrite n 0x00#8 v (s.putIo n kn u) = .next (s.putIo n kn { u with id := v.extractLsb' 24 8 ++ 0#24 }) := by
  rw [← and_idMask]
  exact congrArg _ (modifyIo_putIo present u fun u => { u with id := v &&& idMask })

theorem indexWrite_of_reserved {i : Byte} (h : indexReserved i) (n : Nat) (v : Word) (s : State) :
    indexWrite n i v s = .next (flagReserved s) := by
  obtain ⟨ne0, ne1, -, -⟩ := (indexReserved_iff i).1 h
  have outside : ¬(0x10 ≤ i.toNat ∧ i.toNat < 0x30) := by omega
  simp [indexWrite, ne0, ne1, outside]

theorem indexWrite_entryLow (n : Nat) (e : Fin 16) (v : Word) (s : State) :
    indexWrite n (BitVec.ofNat 8 (0x10 + 2 * e.val)) v s = followLevel n e (modifyIo s n (storeEntryLow e v)) := by
  fin_cases e <;> rfl

theorem indexWrite_entryHigh (present : s.packages[n]? = some kn) (e : Fin 16) (v : Word) :
    indexWrite n (BitVec.ofNat 8 (0x11 + 2 * e.val)) v (s.putIo n kn u) =
      .next (s.putIo n kn { u with rt := u.rt.set e.val (v ++ (u.rt.get e).extractLsb' 0 32) e.isLt }) := by
  calc indexWrite n (BitVec.ofNat 8 (0x11 + 2 * e.val)) v (s.putIo n kn u)
    _ = .next (modifyIo (s.putIo n kn u) n (storeEntryHigh e v)) := by fin_cases e <;> rfl
    _ = .next (s.putIo n kn (storeEntryHigh e v u)) := by rw [modifyIo_putIo present]

end

/-! ### What a write of the low word of an entry stores (R205, R49) -/

theorem getLsbD_rtLowMask {b : Nat} (h : b < 32) : rtLowMask.getLsbD b = decide (b < 12 ∨ b = 15 ∨ b = 16) := by
  decide +revert

/-- The low word that a write of `v` leaves in the entry `e`. -/
def writtenLow (e : Word64) (v : Word) : Word := writeMasked rtLowMask entryReadOnly (lowWord e) v

theorem getLsbD_writtenLow (e : Word64) (v : Word) {b : Nat} (h : b < 32) :
    (writtenLow e v).getLsbD b =
      if b < 12 ∨ b = 15 ∨ b = 16 then v.getLsbD b else (decide (b = 12 ∨ b = 14) && e.getLsbD b) := by
  rw [writtenLow, getLsbD_writeMasked_of (getLsbD_rtLowMask h) (getLsbD_entryReadOnly h) (by omega), getLsbD_lowWord e h]

/-- The bits software may write are those of `v`. -/
theorem getLsbD_writtenLow_of_writable (e : Word64) (v : Word) {b : Nat} (h : b < 12 ∨ b = 15 ∨ b = 16) :
    (writtenLow e v).getLsbD b = v.getLsbD b := by
  rw [getLsbD_writtenLow e v (by omega), if_pos h]

theorem writtenLow_masked (e : Word64) (v : Word) : maskedOf (writtenLow e v) = v.getLsbD 16 :=
  getLsbD_writtenLow_of_writable e v (by omega)

theorem writtenLow_trigger (e : Word64) (v : Word) : triggerOf (writtenLow e v) = triggerOf v := by
  rw [triggerOf, getLsbD_writtenLow_of_writable e v (by omega), triggerOf]

/-- `u` after `v` has been written to the low word of entry `j`: an entry left masked has its detector wait (R182). -/
def IoUnit.lowWritten (u : IoUnit) (j : Fin 16) (v : Word) : IoUnit :=
  { u with
    rt := u.rt.set j.val (highWord (u.rt.get j) ++ writtenLow (u.rt.get j) v) j.isLt
    pins := if v.getLsbD 16 then u.pins.set j.val ⟨(u.pins.get j).level, .waiting⟩ j.isLt else u.pins }

theorem storeEntryLow_eq (j : Fin 16) (v : Word) (u : IoUnit) : storeEntryLow j v u = u.lowWritten j v := by
  have mask := writtenLow_masked (u.rt.get j) v
  unfold writtenLow at mask
  simp only [storeEntryLow, mask, IoUnit.lowWritten]
  cases v.getLsbD 16 <;> rfl

theorem lowWritten_get (u : IoUnit) (j : Fin 16) (v : Word) :
    (u.lowWritten j v).rt.get j = highWord (u.rt.get j) ++ writtenLow (u.rt.get j) v := Vector.getElem_set_self j.isLt

theorem lowWord_lowWritten (u : IoUnit) (j : Fin 16) (v : Word) :
    lowWord ((u.lowWritten j v).rt.get j) = writtenLow (u.rt.get j) v := by
  rw [lowWritten_get]
  exact lowWord_joinWords ..

/-! ### An entry that is not unmasked and level-triggered sends nothing (R207) -/

/-- An entry that is masked, or edge-triggered, or whose pin has the level last sent. -/
theorem followLevel_quiet {s : State} {n : Nat} {kn : Package} {j : Fin 16} (present : s.packages[n]? = some kn)
    (quiet : maskedOf (lowWord (kn.iou.rt.get j)) = true ∨ triggerOf (lowWord (kn.iou.rt.get j)) = .edge ∨
      kn.iou.levelSent.get j = (kn.iou.pins.get j).level) : followLevel n j s = .next s := by
  rw [followLevel, withPackage_of _ present]
  refine if_neg ?_
  rintro ⟨unmasked, level, differs⟩
  obtain masked | edge | same := quiet
  · simp [masked] at unmasked
  · simp [edge] at level
  · exact differs same.symm

section
variable {s : State} {p n : Nat} {k kn : Package}

/-- R205: a write of the low word of an entry that leaves it masked or edge-triggered. -/
theorem indexAccess_writeLow_quiet (reach : IoBusReady s p n k) (empty : k.cpu.wbuf = []) (ready : IoReady s n kn)
    {v : Word} (quiet : v.getLsbD 16 = true ∨ v.getLsbD 15 = false) (e : Fin 16) :
    indexAccess p n (BitVec.ofNat 8 (0x10 + 2 * e.val)) (.write v false) s =
      .next (s.putIo n kn
        { kn.iou.lowWritten e v with select := (BitVec.ofNat 8 (0x10 + 2 * e.val)).setWidth 32 }) := by
  rw [indexAccess_write reach empty ready, indexWrite_entryLow, State.selected, modifyIo_putIo ready.present,
    storeEntryLow_eq]
  refine followLevel_quiet (putIo_get_same ready.present _) (quiet.imp (fun masked => ?_) fun edge => .inl ?_)
  · rw [lowWord_lowWritten, writtenLow_masked, masked]
  · rw [lowWord_lowWritten, writtenLow_trigger, triggerOf_eq_edge, edge]

end

/-- Settles O34: the row of the index in SELECT selects what is selected already. -/
theorem ioWindow : Obligations.IoWindow := by
  intro s p n k kn v j reach empty ready
  have self : s.putIo n kn kn.iou = s := putPackage_self ready.present
  have reads {w : Word} := windowAccess_read_some (w := w) reach empty ready
  have writes := windowAccess_write reach empty ready v
  refine ⟨fun i a held now => ?row, fun index => ?id, fun index => ?high⟩
  case row =>
    calc ioAccess p n 1#6 a s
      _ = ioAccess p n 1#6 a (s.selected n kn i) := by rw [selected_eq_self ready.present held]
      _ = indexAccess p n i a s := by
          rw [indexAccess_of_now now, ioAccess_select reach empty ready, andThen_next]
      _ = exec (indexInstr i p n a) s := (exec_indexInstr ..).symm
  case id =>
    replace index : selectedIndex kn.iou = 0x00#8 := index
    refine ⟨reads (by rw [index]; rfl), writes.trans ?_⟩
    rw [index, ← indexWrite_id ready.present, self]
  case high =>
    replace index : selectedIndex kn.iou = BitVec.ofNat 8 (0x11 + 2 * j.val) := index
    refine ⟨reads (by rw [index]; exact indexRead_entryHigh ..), writes.trans ?_⟩
    rw [index, ← indexWrite_entryHigh ready.present, self]

/-- Settles O36: every indirect row is one write of its index. -/
theorem indirectWrites : Obligations.IndirectWrites := by
  intro s p n k kn v j x sel reach empty ready reserved direct
  have write (i : Byte) := indexAccess_write reach empty ready i v
  have high (e : Fin 16) := (write _).trans (indexWrite_entryHigh ready.present e v)
  have lower : j.toNat < 16 := by omega
  have upper : 8 + j.toNat < 16 := by omega
  refine ⟨fun i u => s.putIo n kn { u with select := i.setWidth 32 }, fun i u => rfl,
    (write 0x00#8).trans (indexWrite_id ready.present v), write 0x01#8,
    (write x).trans (indexWrite_of_reserved reserved ..), ?reservedDirect, ?high0To7, ?high8To15, fun quiet => ?low⟩
  case reservedDirect =>
    calc ioAccess p n sel (.write v false) s
      _ = writeIoReserved n s := by rw [ioAccess_write reach empty ready.mapped, ioWrite_of_reserved direct]
      _ = .next (flagReserved s) := writeIoReserved_of ready
  case high0To7 => exact (congrArg (indexAccess p n · _ s) (rtIndex_high0To7 j)).trans (high ⟨_, lower⟩)
  case high8To15 =>
    rw [show 0x21 + 2 * j.toNat = 0x11 + 2 * (8 + j.toNat) by omega]
    exact (congrArg (indexAccess p n · _ s) (rtIndex_high8To15 j)).trans (high ⟨_, upper⟩)
  case low =>
    have low := indexAccess_writeLow_quiet reach empty ready quiet
    refine ⟨writtenLow kn.iou.rt[j.toNat] v, writtenLow kn.iou.rt[8 + j.toNat] v, ?low0To7, ?low8To15, fun b hb =>
      ⟨getLsbD_writtenLow _ v hb, getLsbD_writtenLow _ v hb⟩⟩
    case low0To7 => exact (congrArg (indexAccess p n · _ s) (rtIndex_low0To7 j)).trans (low ⟨_, lower⟩)
    case low8To15 =>
      rw [show 0x20 + 2 * j.toNat = 0x10 + 2 * (8 + j.toNat) by omega]
      exact (congrArg (indexAccess p n · _ s) (rtIndex_low8To15 j)).trans (low ⟨_, upper⟩)

end Sys2Proof.Machine
end


section
/-!
PROOFS. What an I/O unit sends for an unmasked level-triggered entry (R206, R207, R176): on a write that leaves the entry so, and when
its pin takes a level.
-/

namespace Sys2Proof.Machine

/-! ### The message of an entry (R206, R207) -/

theorem modeCodeOf_lowWord (e : Word64) : modeCodeOf (lowWord e) = e.extractLsb' 8 3 :=
  BitVec.extractLsb'_extractLsb'_of_le (show 8 + 3 ≤ 32 by omega)

theorem triggerOf_eq_level (w : Word) : triggerOf w = .level ↔ w.getLsbD 15 = true := by
  unfold triggerOf
  split <;> simp_all

/-- A physical destination is in the bits 63:56 of an entry. -/
theorem highWord_unit (e : Word64) : (highWord e).extractLsb' 24 8 = e.extractLsb' 56 8 := by
  apply BitVec.eq_of_toNat_eq
  simp only [highWord, BitVec.extractLsb'_toNat, Nat.shiftRight_eq_div_pow]
  omega

theorem entryMessage_eq (n : Nat) (j : Fin 16) (mode : DeliveryMode) (lvl : Bool) (u : IoUnit) :
    entryMessage n j mode lvl u = pinMessage n j u.id (u.rt.get j) mode (triggerOf (lowWord (u.rt.get j))) lvl := by
  have vector : vectorOf (lowWord (u.rt.get j)) = (u.rt.get j).extractLsb' 0 8 :=
    BitVec.extractLsb'_extractLsb'_of_le (show 0 + 8 ≤ 32 by omega)
  have logical : (lowWord (u.rt.get j)).getLsbD 11 = (u.rt.get j).getLsbD 11 := getLsbD_lowWord _ (by omega)
  simp only [entryMessage, pinMessage, vector, destModeOf, logical]
  cases (u.rt.get j).getLsbD 11 with
  | false => rw [← highWord_unit]; rfl
  | true => rfl

/-! ### Sending by delivery mode (R176, R205) -/

section
variable {s : State} {n : Nat} {j : Fin 16} {lvl : Bool} {u : IoUnit}

theorem ioSend_allowed {mode : DeliveryMode} (names : deliveryModeOf ((u.rt.get j).extractLsb' 8 3) = some mode)
    (notRead : mode ≠ .remoteRead) (allowed : meaningful mode (triggerOf (lowWord (u.rt.get j))) = true) :
    ioSend n j lvl u s =
      .next (sendMessage (modifyIo s n (setEntryBit j deliveryStateBit true))
        (pinMessage n j u.id (u.rt.get j) mode (triggerOf (lowWord (u.rt.get j))) lvl)) := by
  simp only [ioSend, modeCodeOf_lowWord, names, if_neg notRead, if_pos allowed, entryMessage_eq]

theorem ioSend_meaningless {mode : DeliveryMode} (names : deliveryModeOf ((u.rt.get j).extractLsb' 8 3) = some mode)
    (notRead : mode ≠ .remoteRead) (meaningless : meaningful mode (triggerOf (lowWord (u.rt.get j))) = false) :
    ioSend n j lvl u s = .fault .deliveryTriggerCombination := by
  simp only [ioSend, modeCodeOf_lowWord, names, if_neg notRead, meaningless]
  rfl

/-- The codes R205 gives no meaning to in the redirection table: two that name no mode, and Remote Read. -/
theorem ioSend_noMode (code : (u.rt.get j).extractLsb' 8 3 ∈ [0b010#3, 0b011#3, 0b110#3]) :
    ioSend n j lvl u s = .fault .redirectionDeliveryMode := by
  simp only [List.mem_cons, List.not_mem_nil, or_false] at code
  obtain code | code | code := code <;> rw [ioSend, modeCodeOf_lowWord, code] <;> rfl

end

/-- R176: the modes an unmasked level-triggered entry may send. -/
theorem levelModes_allowed {x : BitVec 3 × DeliveryMode} (h : x ∈ levelModes) :
    deliveryModeOf x.1 = some x.2 ∧ x.2 ≠ .remoteRead ∧ meaningful x.2 .level = true := by
  fin_cases h <;> decide

/-! ### A level-triggered entry follows its pin (R207) -/

/-- Pin `j` of `u` is at `lvl`, and its entry is `e`, unmasked and level-triggered. -/
structure LevelEntry (u : IoUnit) (j : Fin 16) (e : Word64) (lvl : Bool) : Prop where
  entry : u.rt.get j = e
  unmasked : e.getLsbD 16 = false
  level : e.getLsbD 15 = true
  pin : (u.pins.get j).level = lvl

section
variable {s : State} {n : Nat} {kn : Package} {j : Fin 16} {u : IoUnit} {e : Word64} {lvl : Bool}

theorem LevelEntry.trigger (h : LevelEntry u j e lvl) : triggerOf (lowWord (u.rt.get j)) = .level := by
  rw [triggerOf_eq_level, getLsbD_lowWord _ (by omega), h.entry, h.level]

theorem LevelEntry.notMasked (h : LevelEntry u j e lvl) : maskedOf (lowWord (u.rt.get j)) = false := by
  rw [maskedOf, getLsbD_lowWord _ (by omega), h.entry, h.unmasked]

variable (h : LevelEntry u j e lvl) (present : s.packages[n]? = some kn)
include h present

theorem LevelEntry.followLevel_same (same : u.levelSent.get j = lvl) :
    followLevel n j (s.putIo n kn u) = .next (s.putIo n kn u) :=
  followLevel_quiet (putIo_get_same present u) (.inr (.inr (same.trans h.pin.symm)))

/-- The level counts as sent before the message is. -/
theorem LevelEntry.followLevel_differs (differs : u.levelSent.get j = !lvl) :
    followLevel n j (s.putIo n kn u) = ioSend n j lvl u (s.putIo n kn (setLevelSent j lvl u)) := by
  have fires : maskedOf (lowWord (u.rt.get j)) = false ∧ triggerOf (lowWord (u.rt.get j)) = .level ∧
      lvl ≠ u.levelSent.get j := ⟨h.notMasked, h.trigger, by simp [differs]⟩
  simp only [followLevel, withPackage_of _ (putIo_get_same present u), h.pin, if_pos fires, modifyIo_putIo present]

theorem LevelEntry.followLevel_sends (differs : u.levelSent.get j = !lvl) {x : BitVec 3 × DeliveryMode}
    (allowed : x ∈ levelModes) (code : e.extractLsb' 8 3 = x.1) :
    followLevel n j (s.putIo n kn u) =
      .next { s.putIo n kn
          { u with
            levelSent := u.levelSent.set j.val lvl j.isLt
            rt := u.rt.set j.val (e ||| 0x1000#64) j.isLt } with
        icc := { s.icc with queue := s.icc.queue ++ [pinMessage n j u.id e x.2 .level lvl] } } := by
  obtain ⟨names, notRead, meaning⟩ := levelModes_allowed allowed
  rw [h.followLevel_differs present differs,
    ioSend_allowed (mode := x.2) (by rw [h.entry, code, names]) notRead (by rw [h.trigger, meaning]),
    modifyIo_putIo present, h.trigger, ← h.entry]
  rfl

theorem LevelEntry.followLevel_extInt (differs : u.levelSent.get j = !lvl) (code : e.extractLsb' 8 3 = 0b111#3) :
    followLevel n j (s.putIo n kn u) = .fault .deliveryTriggerCombination := by
  rw [h.followLevel_differs present differs]
  exact ioSend_meaningless (mode := .extInt) (by rw [h.entry, code]; rfl) (by decide) (by rw [h.trigger]; rfl)

theorem LevelEntry.followLevel_noMode (differs : u.levelSent.get j = !lvl)
    (code : e.extractLsb' 8 3 ∈ [0b010#3, 0b011#3, 0b110#3]) :
    followLevel n j (s.putIo n kn u) = .fault .redirectionDeliveryMode := by
  rw [h.followLevel_differs present differs]
  exact ioSend_noMode (h.entry.symm ▸ code)

end

/-! ### A write of the low word of a level-triggered entry (R205, R207) -/

theorem exec_lowRow (p n : Nat) (j : Fin 16) (a : Access) (s : State) :
    exec (lowRow p n j a) s = indexAccess p n (BitVec.ofNat 8 (0x10 + 2 * j.val)) a s := by
  fin_cases j <;> rfl

theorem lowIndex_setWidth (j : Fin 16) :
    (BitVec.ofNat 8 (0x10 + 2 * j.val)).setWidth 32 = BitVec.ofNat 32 (0x10 + 2 * j.val) := by decide +revert

theorem writtenLow_eq (e : Word64) (v : Word) :
    writtenLow e v = (v &&& 0x00018FFF#32) ||| (e.extractLsb' 0 32 &&& 0x00005000#32) := BitVec.or_comm ..

/-- The delivery mode of the entry that a write leaves is the written one. -/
theorem modeCode_writtenLow (hi : Word) (e : Word64) (v : Word) :
    (hi ++ writtenLow e v).extractLsb' 8 3 = v.extractLsb' 8 3 := by
  apply BitVec.eq_of_getLsbD_eq
  intro i small
  simp only [BitVec.getLsbD_extractLsb', BitVec.getLsbD_append, small, decide_true, Bool.true_and,
    getLsbD_writtenLow_of_writable e v (show 8 + i < 12 ∨ _ by omega)]
  rw [if_pos (by omega)]

/-- The entry that a write of `v`, unmasked and level-triggered, leaves. -/
theorem levelEntry_writtenLow (u : IoUnit) (j : Fin 16) (hi : Word) (e : Word64) {v : Word} (unmasked : v.getLsbD 16 = false)
    (level : v.getLsbD 15 = true) :
    LevelEntry { u with rt := u.rt.set j.val (hi ++ writtenLow e v) j.isLt } j (hi ++ writtenLow e v)
      (u.pins.get j).level where
  entry := Vector.getElem_set_self j.isLt
  unmasked := by
    rw [BitVec.getLsbD_append, if_pos (by omega), getLsbD_writtenLow_of_writable _ _ (by omega), unmasked]
  level := by
    rw [BitVec.getLsbD_append, if_pos (by omega), getLsbD_writtenLow_of_writable _ _ (by omega), level]
  pin := rfl

/-- A write that leaves the entry unmasked, whose detector then stays as it is. -/
theorem lowRow_write {s : State} {p n : Nat} {k kn : Package} (reach : IoBusReady s p n k) (empty : k.cpu.wbuf = [])
    (ready : IoReady s n kn) (j : Fin 16) {v : Word} (unmasked : v.getLsbD 16 = false) :
    exec (lowRow p n j (.write v false)) s =
      followLevel n j (s.putIo n kn { kn.iou with
        select := BitVec.ofNat 32 (0x10 + 2 * j.val)
        rt := kn.iou.rt.set j.val (highWord (kn.iou.rt.get j) ++ writtenLow (kn.iou.rt.get j) v) j.isLt }) := by
  rw [exec_lowRow, indexAccess_write reach empty ready, indexWrite_entryLow, State.selected, modifyIo_putIo ready.present,
    storeEntryLow_eq, lowIndex_setWidth, IoUnit.lowWritten, unmasked]
  rfl

/-- Settles O37: the write stores the entry, which then follows its pin. -/
theorem entryWriteSends : Obligations.EntryWriteSends := by
  intro s p n k kn v j reach empty ready unmasked level
  have write := lowRow_write reach empty ready j unmasked
  have entry := levelEntry_writtenLow { kn.iou with select := BitVec.ofNat 32 (0x10 + 2 * j.val) } j
    (highWord (kn.iou.rt.get j)) (kn.iou.rt.get j) unmasked level
  have code := modeCode_writtenLow (highWord (kn.iou.rt.get j)) (kn.iou.rt.get j) v
  simp only [← writtenLow_eq]
  refine ⟨fun same => ?same, fun differs => ⟨fun x allowed mode => ?sends, fun mode => ?extInt, fun mode => ?noMode⟩⟩
  case same => exact write.trans (entry.followLevel_same ready.present same)
  case sends =>
    have sends := entry.followLevel_sends ready.present differs allowed (code.trans mode)
    rw [Vector.set_set] at sends
    exact write.trans sends
  case extInt => exact write.trans (entry.followLevel_extInt ready.present differs (code.trans mode))
  case noMode => exact write.trans (entry.followLevel_noMode ready.present differs (code.symm ▸ mode))

/-! ### A level at a pin (R206, R207) -/

theorem levelEntry_setPin {u : IoUnit} {j : Fin 16} (unmasked : (u.rt.get j).getLsbD 16 = false)
    (level : (u.rt.get j).getLsbD 15 = true) (x : InputPin) : LevelEntry (setPin j x u) j (u.rt.get j) x.level where
  entry := rfl
  unmasked := unmasked
  level := level
  pin := congrArg InputPin.level (Vector.getElem_set_self j.isLt)

theorem intPin_level {s : State} {n : Nat} {kn : Package} (ready : IoReady s n kn) {j : Fin 16} {lvl : Bool}
    (h : LevelEntry kn.iou j (kn.iou.rt.get j) lvl) (b : Bool) :
    intPin n j b s = followLevel n j (s.putIo n kn (setPin j ⟨b, (kn.iou.pins.get j).edge⟩ kn.iou)) := by
  rw [intPin, withPackage_of _ ready.present, ← modifyIo_of ready.present]
  simp only [ready.usable, ready.released, h.notMasked, h.trigger]
  rfl

/-- Settles O39: the pin takes the level, which its entry then follows. -/
theorem levelInput : Obligations.LevelInput := by
  intro s n kn j b r ready unmasked level
  have ready' : IoReady { s with input := r } n kn := { ready with }
  have entry := levelEntry_setPin unmasked level ⟨b, (kn.iou.pins.get j).edge⟩
  have takes := intPin_level ready' ⟨rfl, unmasked, level, rfl⟩ b
  refine ⟨fun same => ?same, fun differs => ⟨fun x allowed mode => ?sends, fun mode => ?extInt, fun mode => ?noMode⟩⟩
  case same => exact takes.trans (entry.followLevel_same ready'.present same)
  case sends => exact takes.trans (entry.followLevel_sends ready'.present differs allowed mode)
  case extInt => exact takes.trans (entry.followLevel_extInt ready'.present differs mode)
  case noMode => exact takes.trans (entry.followLevel_noMode ready'.present differs mode)

end Sys2Proof.Machine
end


section
/-!
PROOFS. What an event at a TAP does to its package (R231 to R242, R245, R368): to the TAP itself, to the mark that a reset is due,
and to the processor where the pins change. From this: the table of the controller, what the events leave alone, and five clocks
with `tms` high.
-/

namespace Sys2Proof.Machine

/-! ### A package whose TAP changes -/

/-- `k` with its TAP at `t`, and all else as it was. -/
def Package.setTap (k : Package) (t : Tap) : Package := { k with tap := t }

/-- `k` with its TAP at `t`, and its processor started if the RESET input fell with the change (R24). -/
def Package.withTap (k : Package) (t : Tap) : Package := { k with tap := t, cpu := cpuAfter k { k with tap := t } }

section
variable {k k' : Package} {t : Tap}

@[simp] theorem Package.setTap_tap : (k.setTap t).tap = t := rfl
@[simp] theorem Package.withTap_tap : (k.withTap t).tap = t := rfl

/-- The RESET input follows the instruction, the latched cells and what the unit drives (R24, R245). -/
theorem cpuReset_congr (ir : k'.tap.ir = k.tap.ir) (latch : k'.tap.bsrLatch = k.tap.bsrLatch)
    (prst : k'.lu.prst = k.lu.prst) : cpuReset k' = cpuReset k := by
  have drive : scanDrive k'.tap 122 123 = scanDrive k.tap 122 123 := by rw [scanDrive, scanDrive, latch]
  have pin : pinPrst k' = pinPrst k := by rw [pinPrst, pinPrst, scanDriven, scanDriven, ir, drive, prst]
  rw [cpuReset, cpuReset, pin]

/-- R245: under another instruction than extest the RESET input is what the unit drives. -/
theorem cpuReset_of_not_extest (h : k.tap.ir ≠ extestOpcode) : cpuReset k = k.lu.prst := by
  have cut : scanDriven k.tap = false := by simpa [scanDriven] using h
  cases hp : k.lu.prst <;> simp [cpuReset, pinPrst, cut, driven, hp]

theorem cpuAfter_of_eq (h : cpuReset k' = cpuReset k) : cpuAfter k k' = k.cpu := by
  simp [cpuAfter, h]

theorem cpuAfter_congr {k₁ k₂ k₁' k₂' : Package} (cpu : k₁.cpu = k₂.cpu) (before : cpuReset k₁ = cpuReset k₂)
    (after : cpuReset k₁' = cpuReset k₂') : cpuAfter k₁ k₁' = cpuAfter k₂ k₂' := by
  rw [cpuAfter, cpuAfter, cpu, before, after]

theorem Package.withTap_eq_setTap (ir : t.ir = k.tap.ir) (latch : t.bsrLatch = k.tap.bsrLatch) : k.withTap t = k.setTap t := by
  have same : cpuReset { k with tap := t } = cpuReset k := cpuReset_congr ir latch rfl
  rw [withTap, cpuAfter_of_eq same]
  rfl

theorem actOnRise_bsrLatch (k : Package) (fresh : Nat) (tdi : Bool) : (actOnRise k fresh tdi).bsrLatch = k.tap.bsrLatch := by
  unfold actOnRise
  split
  · simp only [captureDr]; split <;> rfl
  · simp only [shiftDr]; split <;> rfl
  · rfl
  · rfl
  · rfl

@[simp] theorem moveTo_state (x : TapState) (t : Tap) : (moveTo x t).state = x := by
  unfold moveTo; split <;> rfl

/-- R236: outside Test-Logic-Reset a move keeps the instruction. -/
theorem moveTo_of_ne {x : TapState} (h : x ≠ .testLogicReset) (t : Tap) : moveTo x t = { t with state := x } := if_neg h

end

/-! ### Events (R231): all that one touches are its package and the counter of free values -/

/-- `k` with the mark that a reset is due, if `extest` (R368). -/
def Package.marked (k : Package) (extest : Bool) : Package := { k with needsReset := k.needsReset || extest }

/-- R242, R368: `k` after the falling edge that makes the opcode in the shift stages its instruction. -/
def Package.latched (k : Package) : Package :=
  (k.marked (k.tap.irShift == extestOpcode)).withTap { k.tap with ir := k.tap.irShift }

@[simp] theorem Package.latched_tap (k : Package) : k.latched.tap = { k.tap with ir := k.tap.irShift } := rfl

/-- What a falling edge makes of a package and the counter; none where it is refused (R256). -/
def fallEffect (x : Package × Nat) : Option (Package × Nat) :=
  if x.1.tap.state = .updateDr then some (x.1.withTap (updateDr x.1.tap), x.2)
  else if x.1.tap.state = .updateIr then
    if listedOpcode x.1.tap.irShift then some (x.1.latched, x.2) else none
  else some x

section
variable {k k' : Package} {n n' : Nat}

theorem fallEffect_updateDr (h : k.tap.state = .updateDr) : fallEffect (k, n) = some (k.withTap (updateDr k.tap), n) := if_pos h

theorem fallEffect_updateIr (h : k.tap.state = .updateIr) :
    fallEffect (k, n) = if listedOpcode k.tap.irShift then some (k.latched, n) else none := by
  simp [fallEffect, h]

theorem fallEffect_of_ne (dr : k.tap.state ≠ .updateDr) (ir : k.tap.state ≠ .updateIr) : fallEffect (k, n) = some (k, n) :=
  (if_neg dr).trans (if_neg ir)

/-- All that a falling edge can do. -/
theorem fallEffect_eq_some (h : fallEffect (k, n) = some (k', n')) :
    (k.tap.state = .updateDr ∧ k' = k.withTap (updateDr k.tap)) ∨ (k.tap.state = .updateIr ∧ k' = k.latched) ∨ k' = k := by
  unfold fallEffect at h
  split_ifs at h with dr ir <;> cases h
  · exact .inl ⟨dr, rfl⟩
  · exact .inr (.inl ⟨ir, rfl⟩)
  · exact .inr (.inr rfl)

end

/-- What a rising edge makes of a package and the counter, `tms` and `tdi` at the levels given. -/
def riseEffect (tms tdi : Bool) (x : Package × Nat) : Package × Nat :=
  (x.1.withTap (moveTo (tapNext x.1.tap.state tms) (actOnRise x.1 x.2 tdi)), if drawsFree x.1.tap.state then x.2 + 1 else x.2)

/-- What an event makes of a package and the counter. -/
def tapEffect (e : TapEvent) (x : Package × Nat) : Option (Package × Nat) :=
  match e with
  | .rise tms tdi => some (riseEffect (pulledUp tms) (pulledUp tdi) x)
  | .fall => fallEffect x
  | .trstLow => some (x.1.withTap (moveTo .testLogicReset x.1.tap), x.2)

/-- The outcome in `s` of what has been made of package `p` and the counter. -/
def State.afterTap (s : State) (p : Nat) (r : Option (Package × Nat)) : Res :=
  match r with
  | some x => .next { s.putPackage p x.1 with fresh := x.2 }
  | none => .refused .jtagOpcode

section
variable {s : State} {p : Nat} {k : Package}

theorem tapFall_of (present : s.packages[p]? = some k) : tapFall p s = s.afterTap p (fallEffect (k, s.fresh)) := by
  rw [tapFall, withPackage_of _ present]
  split
  next state =>
    rw [fallEffect_updateDr state]
    exact congrArg _ (modifyTap_of present _)
  next state =>
    rw [fallEffect_updateIr state, updateIr]
    split
    · rw [modifyPackage_of present, modifyTap_of (putPackage_get_same present _), putPackage_put]
      rfl
    · rfl
  next dr ir =>
    rw [fallEffect_of_ne dr ir]
    exact congrArg _ (putPackage_self present).symm

/-- What an event at a TAP does is what `tapEffect` says of its package and the counter. -/
theorem tapEvent_of (present : s.packages[p]? = some k) (e : TapEvent) :
    tapEvent p e s = s.afterTap p (tapEffect e (k, s.fresh)) := by
  cases e with
  | rise tms tdi =>
    refine (tapRise_of present tms tdi).trans (congrArg _ ?_)
    exact modifyTap_of (s := { s with fresh := if drawsFree k.tap.state then s.fresh + 1 else s.fresh }) present _
  | fall => exact tapFall_of present
  | trstLow => exact (withPackage_of _ present).trans (congrArg _ (modifyTap_of present _))

theorem onEvent_tap_of (present : s.packages[p]? = some k) (e : TapEvent) (r : List Input) :
    onEvent s (.tap p e) r = State.afterTap { s with input := r } p (tapEffect e (k, s.fresh)) :=
  tapEvent_of (s := { s with input := r }) present e

end

/-! ### The table of the controller (R232) -/

/-- Settles O47: the edge moves the controller by `tapNext`, which is the table. -/
theorem tapTable : Obligations.TapTable := by
  intro s p k tms tdi r present x row state
  refine ⟨_, _, onEvent_tap_of present _ r, putPackage_get_same present _, ?next⟩
  case next =>
    have level : pulledUp tms = !(tms == some false) := by rcases tms with _ | _ | _ <;> rfl
    have table : ∀ b : Bool, tapNext x.1 b = if b then x.2.2 else x.2.1 := by
      clear state
      revert x
      decide
    simp only [riseEffect, Package.withTap_tap, moveTo_state, state, level, table]
    by_cases low : tms = some false <;> simp [low]

/-! ### What an event leaves alone (R236, R245) -/

/-- All but the TAP, the mark and the processor stays; the instruction changes in Test-Logic-Reset or where it is latched. -/
theorem tapEffect_frame {e : TapEvent} {k k' : Package} {n n' : Nat} (h : tapEffect e (k, n) = some (k', n')) :
    k' = { k with tap := k'.tap, needsReset := k'.needsReset, cpu := cpuAfter k k' } ∧
      (k'.tap.ir ≠ k.tap.ir → k'.tap.state = .testLogicReset ∨ (e = .fall ∧ k.tap.state = .updateIr)) := by
  have moved : ∀ (x : TapState) (t : Tap), t.ir = k.tap.ir → (moveTo x t).ir ≠ k.tap.ir → x = .testLogicReset := by
    intro x t same
    contrapose!
    intro other
    rw [moveTo_of_ne other]
    exact same
  cases e with
  | rise tms tdi =>
    cases h
    exact ⟨rfl, fun changed => .inl ((moveTo_state _ _).trans (moved _ _ (actOnRise_ir k n _) changed))⟩
  | trstLow =>
    cases h
    exact ⟨rfl, fun _ => .inl (moveTo_state _ _)⟩
  | fall =>
    rcases fallEffect_eq_some h with ⟨_, rfl⟩ | ⟨state, rfl⟩ | rfl
    · exact ⟨rfl, fun changed => absurd (updateDr_ir _) changed⟩
    · exact ⟨rfl, fun _ => .inr ⟨rfl, state⟩⟩
    · exact ⟨by rw [cpuAfter_of_eq rfl], fun changed => absurd rfl changed⟩

/-- Settles O48: the frame of `tapEffect`, put back into the machine. -/
theorem tapTouchesItselfOnly : Obligations.TapTouchesItselfOnly := by
  intro s t p k e r present steps
  rw [onEvent_tap_of present] at steps
  match effect : tapEffect e (k, s.fresh) with
  | none =>
    rw [effect] at steps
    cases steps
  | some (k', n') =>
    rw [effect] at steps
    cases steps
    obtain ⟨rest, instruction⟩ := tapEffect_frame effect
    exact ⟨k', putPackage_get_same present _, by rw [← rest]; rfl, instruction⟩

/-! ### Whole clocks and schedules of events -/

/-- What a whole clock, `tms` and `tdi` at the levels `c`, makes of a package and the counter. -/
def clockEffect (x : Package × Nat) (c : Bool × Bool) : Option (Package × Nat) := fallEffect (riseEffect c.1 c.2 x)

/-- What the clocks `l` make of a package and the counter. -/
def clocksEffect (l : List (Bool × Bool)) (x : Package × Nat) : Option (Package × Nat) := l.foldlM clockEffect x

section
variable {s : State} {p : Nat} {k : Package}

theorem clocksEffect_nil (x : Package × Nat) : clocksEffect [] x = some x := rfl

theorem clocksEffect_cons (c : Bool × Bool) (l : List (Bool × Bool)) (x : Package × Nat) :
    clocksEffect (c :: l) x = (clockEffect x c).bind (clocksEffect l) := List.foldlM_cons

theorem clocksEffect_append (l l' : List (Bool × Bool)) (x : Package × Nat) :
    clocksEffect (l ++ l') x = (clocksEffect l x).bind (clocksEffect l') := List.foldlM_append

/-- Of two changes of package `p` the second stays. -/
theorem putPackage_afterTap (s : State) (p : Nat) (k : Package) (n : Nat) (r : Option (Package × Nat)) :
    State.afterTap { s.putPackage p k with fresh := n } p r = s.afterTap p r := by
  match r with
  | none => rfl
  | some x => simp only [State.afterTap, State.putPackage, List.set_set]

/-- What follows the change of a package starts from that package and counter. -/
theorem andThen_afterTap {f : State → Res} {g : Package × Nat → Option (Package × Nat)} (present : s.packages[p]? = some k)
    (next : ∀ (t : State) (x : Package × Nat), t.packages[p]? = some x.1 → t.fresh = x.2 → f t = t.afterTap p (g x))
    (r : Option (Package × Nat)) : andThen (s.afterTap p r) f = s.afterTap p (r.bind g) := by
  match r with
  | none => rfl
  | some x =>
    exact (next { s.putPackage p x.1 with fresh := x.2 } x (putPackage_get_same present x.1) rfl).trans (putPackage_afterTap ..)

theorem tapClock_of (present : s.packages[p]? = some k) (tms tdi : Bool) :
    tapClock p tms tdi s = s.afterTap p (clockEffect (k, s.fresh) (tms, tdi)) := by
  rw [tapClock, show tapRise p (some tms) (some tdi) s = _ from tapEvent_of present (.rise (some tms) (some tdi))]
  refine andThen_afterTap present (g := fallEffect) (fun t x present' fresh => ?fall) _
  case fall => rw [tapFall_of present', fresh]

theorem tapClocks_of (present : s.packages[p]? = some k) (l : List (Bool × Bool)) :
    tapClocks p l s = s.afterTap p (clocksEffect l (k, s.fresh)) := by
  induction l generalizing s k with
  | nil => exact congrArg _ (putPackage_self present).symm
  | cons c l ih =>
    rw [tapClocks, tapClock_of present, clocksEffect_cons]
    exact andThen_afterTap present (fun t x present' fresh => by rw [ih present', fresh]) _

/-- A schedule of events at one TAP. -/
theorem run_tapEvents (present : s.packages[p]? = some k) (es : List TapEvent) :
    Host.Core.run Sys2Proof.core es.length { s with input := es.map fun e => .event (.tap p e) } =
      State.afterTap { s with input := [] } p (es.foldlM (fun x e => tapEffect e x) (k, s.fresh)) := by
  induction es generalizing s k with
  | nil => exact congrArg _ (putPackage_self (s := { s with input := [] }) present).symm
  | cons e es ih =>
    simp only [List.length_cons, List.map_cons, Host.Core.run, List.foldlM_cons]
    rw [show Sys2Proof.core.step { s with input := .event (.tap p e) :: es.map fun e => .event (.tap p e) } = _ from
      onEvent_tap_of present e _]
    match tapEffect e (k, s.fresh) with
    | none => rfl
    | some x =>
      refine (ih (s := { s.putPackage p x.1 with fresh := x.2 }) (putPackage_get_same present x.1)).trans ?_
      exact putPackage_afterTap { s with input := [] } ..

end

/-! ### What a clock does to the state, the instruction and the processor -/

@[simp] theorem riseEffect_state (tms tdi : Bool) (x : Package × Nat) :
    (riseEffect tms tdi x).1.tap.state = tapNext x.1.tap.state tms := moveTo_state ..

/-- R233, R236: a rising edge keeps the instruction, or makes it idcode in Test-Logic-Reset. -/
theorem riseEffect_ir (tms tdi : Bool) (x : Package × Nat) : (riseEffect tms tdi x).1.tap.ir =
    if tapNext x.1.tap.state tms = .testLogicReset then idcodeOpcode else x.1.tap.ir := by
  simp only [riseEffect, Package.withTap_tap, moveTo]
  split
  · rfl
  · exact actOnRise_ir ..

section
variable {x y : Package × Nat} {c : Bool × Bool}

/-- R236: a falling edge outside Update-IR is never refused, and keeps the instruction. -/
theorem fallEffect_of_not_updateIr (other : x.1.tap.state ≠ .updateIr) :
    ∃ y, fallEffect x = some y ∧ y.1.tap.ir = x.1.tap.ir := by
  by_cases dr : x.1.tap.state = .updateDr
  · exact ⟨_, fallEffect_updateDr dr, updateDr_ir _⟩
  · exact ⟨_, fallEffect_of_ne dr other, rfl⟩

/-- R232: a falling edge moves nothing. -/
theorem fallEffect_state (h : fallEffect x = some y) : y.1.tap.state = x.1.tap.state := by
  rcases fallEffect_eq_some h with ⟨_, eq⟩ | ⟨_, eq⟩ | eq <;> rw [eq]
  · exact updateDr_state _
  · rfl

theorem clockEffect_state (h : clockEffect x c = some y) : y.1.tap.state = tapNext x.1.tap.state c.1 :=
  (fallEffect_state h).trans (riseEffect_state ..)

theorem clocksEffect_state {l : List (Bool × Bool)} (h : clocksEffect l x = some y) :
    y.1.tap.state = (l.map Prod.fst).foldl tapNext x.1.tap.state := by
  induction l generalizing x with
  | nil => cases h; rfl
  | cons c l ih =>
    rw [clocksEffect_cons] at h
    obtain ⟨z, clock, rest⟩ := Option.bind_eq_some_iff.1 h
    rw [ih rest, clockEffect_state clock]
    rfl

/-- R233: a clock that leaves the controller in Test-Logic-Reset leaves idcode as the instruction. -/
theorem clockEffect_idcode (h : clockEffect x c = some y) (reset : y.1.tap.state = .testLogicReset) :
    y.1.tap.ir = idcodeOpcode := by
  have next := (clockEffect_state h).symm.trans reset
  obtain ⟨z, fall, ir⟩ := fallEffect_of_not_updateIr (x := riseEffect c.1 c.2 x) (by simp [next])
  obtain rfl : z = y := Option.some.inj (fall.symm.trans h)
  rw [ir, riseEffect_ir, if_pos next]

theorem clocksEffect_idcode {l : List (Bool × Bool)} (nonempty : l ≠ []) (h : clocksEffect l x = some y)
    (reset : y.1.tap.state = .testLogicReset) : y.1.tap.ir = idcodeOpcode := by
  induction l generalizing x with
  | nil => exact absurd rfl nonempty
  | cons c l ih =>
    rw [clocksEffect_cons] at h
    obtain ⟨z, clock, rest⟩ := Option.bind_eq_some_iff.1 h
    by_cases last : l = []
    · subst last
      cases rest
      exact clockEffect_idcode clock reset
    · exact ih last rest

/-- A clock whose rising edge reaches neither Update state is that edge. -/
theorem clockEffect_of_ne (dr : tapNext x.1.tap.state c.1 ≠ .updateDr) (ir : tapNext x.1.tap.state c.1 ≠ .updateIr) :
    clockEffect x c = some (riseEffect c.1 c.2 x) :=
  fallEffect_of_ne (by simpa using dr) (by simpa using ir)

theorem clockEffect_updateIr (h : tapNext x.1.tap.state c.1 = .updateIr) : clockEffect x c =
    if listedOpcode (riseEffect c.1 c.2 x).1.tap.irShift then
      some ((riseEffect c.1 c.2 x).1.latched, (riseEffect c.1 c.2 x).2)
    else none :=
  fallEffect_updateIr (by simpa using h)

theorem clockEffect_updateDr (h : tapNext x.1.tap.state c.1 = .updateDr) : clockEffect x c =
    some ((riseEffect c.1 c.2 x).1.withTap (updateDr (riseEffect c.1 c.2 x).1.tap), (riseEffect c.1 c.2 x).2) :=
  fallEffect_updateDr (by simpa using h)

/-- R245: an event keeps the registers, and, extest being current neither before nor after it, the processor. -/
theorem tapEffect_keeps {e : TapEvent} (h : tapEffect e x = some y) : y.1.lu = x.1.lu ∧ y.1.iou = x.1.iou ∧
    (x.1.tap.ir ≠ extestOpcode → y.1.tap.ir ≠ extestOpcode → y.1.cpu = x.1.cpu) := by
  obtain ⟨frame, _⟩ := tapEffect_frame h
  have lu : y.1.lu = x.1.lu := by rw [frame]
  refine ⟨lu, by rw [frame], fun before after => ?cpu⟩
  case cpu =>
    rw [frame]
    exact cpuAfter_of_eq (by rw [cpuReset_of_not_extest before, cpuReset_of_not_extest after, lu])

theorem riseEffect_ir_ne_extest {tms tdi : Bool} (h : x.1.tap.ir ≠ extestOpcode) :
    (riseEffect tms tdi x).1.tap.ir ≠ extestOpcode := by
  rw [riseEffect_ir]
  split
  · decide
  · exact h

/-- R245: a clock keeps the registers, and, extest being current neither before nor after it, the processor. -/
theorem clockEffect_keeps (h : clockEffect x c = some y) : y.1.lu = x.1.lu ∧ y.1.iou = x.1.iou ∧
    (x.1.tap.ir ≠ extestOpcode → y.1.tap.ir ≠ extestOpcode → y.1.cpu = x.1.cpu) := by
  obtain ⟨lu₁, iou₁, cpu₁⟩ := tapEffect_keeps (e := .rise (some c.1) (some c.2)) (x := x) rfl
  obtain ⟨lu₂, iou₂, cpu₂⟩ := tapEffect_keeps (e := .fall) h
  exact ⟨lu₂.trans lu₁, iou₂.trans iou₁, fun before after =>
    (cpu₂ (riseEffect_ir_ne_extest before) after).trans (cpu₁ before (riseEffect_ir_ne_extest before))⟩

end

/-! ### Five clocks with `tms` high (R233) -/

/-- The opcode that clocks with `tms` high latch from here, if any: `opcodeOnTheWay`, said of a package and the counter. -/
def opcodeAhead (tdi : Bool) (x : Package × Nat) : Option (BitVec 4) :=
  match x.1.tap.state with
  | .captureIr => some (Config.freeCaptureIr x.2 ++ 0b01#2)
  | .shiftIr => some (BitVec.ofBool tdi ++ x.1.tap.irShift.extractLsb' 1 3)
  | .exit1Ir | .pauseIr | .exit2Ir => some x.1.tap.irShift
  | _ => none

theorem opcodeOnTheWay_eq (s : State) (k : Package) (tdi : Option Bool) :
    opcodeOnTheWay s k tdi = opcodeAhead (pulledUp tdi) (k, s.fresh) := rfl

section
variable {x y : Package × Nat} {tdi : Bool}

/-- On the way up the opcode that will be latched stays the same until the edge before that which latches it. -/
theorem opcodeAhead_rise : opcodeAhead tdi x =
    if tapNext x.1.tap.state true = .updateIr then some (riseEffect true tdi x).1.tap.irShift
    else opcodeAhead tdi (riseEffect true tdi x) := by
  cases state : x.1.tap.state <;> simp [opcodeAhead, riseEffect, actOnRise, state, tapNext, moveTo, captureIr, shiftIr]

/-- A falling edge changes no opcode on its way. -/
theorem opcodeAhead_fall (h : fallEffect x = some y) (other : x.1.tap.state ≠ .updateIr) :
    opcodeAhead tdi y = opcodeAhead tdi x := by
  unfold fallEffect at h
  split_ifs at h with dr <;> cases h
  · simp [opcodeAhead, dr, updateDr_state]
  · rfl

/-- Extest is neither the instruction nor the opcode that will be latched. -/
def NoExtest (tdi : Bool) (x : Package × Nat) : Prop := x.1.tap.ir ≠ extestOpcode ∧ opcodeAhead tdi x ≠ some extestOpcode

/-- What clocks with `tms` high leave of a package. -/
structure KeptHigh (tdi : Bool) (x y : Package × Nat) : Prop where
  lu : y.1.lu = x.1.lu
  iou : y.1.iou = x.1.iou
  cpu : NoExtest tdi x → NoExtest tdi y ∧ y.1.cpu = x.1.cpu
  ahead : ∀ op, opcodeAhead tdi y = some op → opcodeAhead tdi x = some op

theorem KeptHigh.trans {z : Package × Nat} (h : KeptHigh tdi x y) (h' : KeptHigh tdi y z) : KeptHigh tdi x z where
  lu := h'.lu.trans h.lu
  iou := h'.iou.trans h.iou
  cpu quiet :=
    have ⟨quiet₁, cpu₁⟩ := h.cpu quiet
    have ⟨quiet₂, cpu₂⟩ := h'.cpu quiet₁
    ⟨quiet₂, cpu₂.trans cpu₁⟩
  ahead op later := h.ahead op (h'.ahead op later)

/-- A clock with `tms` high is not refused if the opcode on its way is listed. -/
theorem clockEffect_high (listed : ∀ op, opcodeAhead tdi x = some op → listedOpcode op = true) :
    ∃ y, clockEffect x (true, tdi) = some y ∧ KeptHigh tdi x y := by
  have ahead := opcodeAhead_rise (tdi := tdi) (x := x)
  by_cases latches : tapNext x.1.tap.state true = .updateIr
  case pos =>
    rw [if_pos latches] at ahead
    have clock := clockEffect_updateIr (c := (true, tdi)) latches
    rw [if_pos (listed _ ahead)] at clock
    obtain ⟨lu, iou, cpu⟩ := clockEffect_keeps clock
    have past : opcodeAhead tdi ((riseEffect true tdi x).1.latched, (riseEffect true tdi x).2) = none := by
      simp [opcodeAhead, latches]
    refine ⟨_, clock, lu, iou, fun quiet => ?_, fun op later => ?_⟩
    · have other : (riseEffect true tdi x).1.tap.irShift ≠ extestOpcode := fun extest => quiet.2 (extest ▸ ahead)
      exact ⟨⟨other, by simp [past]⟩, cpu quiet.1 other⟩
    · simp [past] at later
  case neg =>
    rw [if_neg latches] at ahead
    have other : (riseEffect true tdi x).1.tap.state ≠ .updateIr := by simpa using latches
    obtain ⟨y, clock, ir⟩ := fallEffect_of_not_updateIr other
    have same := ahead.trans (opcodeAhead_fall clock other).symm
    obtain ⟨lu, iou, cpu⟩ := clockEffect_keeps (c := (true, tdi)) clock
    refine ⟨y, clock, lu, iou, fun quiet => ?_, fun op later => same ▸ later⟩
    have ir' : y.1.tap.ir ≠ extestOpcode := ir ▸ riseEffect_ir_ne_extest quiet.1
    exact ⟨⟨ir', same ▸ quiet.2⟩, cpu quiet.1 ir'⟩

theorem clocksEffect_high (m : Nat) (listed : ∀ op, opcodeAhead tdi x = some op → listedOpcode op = true) :
    ∃ y, clocksEffect (List.replicate m (true, tdi)) x = some y ∧ KeptHigh tdi x y := by
  induction m generalizing x with
  | zero => exact ⟨x, rfl, rfl, rfl, fun quiet => ⟨quiet, rfl⟩, fun _ h => h⟩
  | succ m ih =>
    obtain ⟨y, clock, kept⟩ := clockEffect_high listed
    obtain ⟨z, clocks, kept'⟩ := ih fun op later => listed op (kept.ahead op later)
    exact ⟨z, by rw [List.replicate_succ, clocksEffect_cons, clock]; exact clocks, kept.trans kept'⟩

/-- The clock that would latch an opcode without an effect is refused (R256). -/
theorem clockEffect_refused {op : BitVec 4} (latches : tapNext x.1.tap.state true = .updateIr)
    (ahead : opcodeAhead tdi x = some op) (unlisted : listedOpcode op = false) : clockEffect x (true, tdi) = none := by
  rw [opcodeAhead_rise, if_pos latches] at ahead
  rw [clockEffect_updateIr latches, Option.some.inj ahead, unlisted]
  rfl

/-- The way up meets Update-IR at the first edge or at the second. -/
theorem updateIr_ahead {op : BitVec 4} (ahead : opcodeAhead tdi x = some op) :
    tapNext x.1.tap.state true = .updateIr ∨ tapNext (tapNext x.1.tap.state true) true = .updateIr := by
  cases state : x.1.tap.state <;> simp [opcodeAhead, state] at ahead <;> simp [tapNext]

theorem clocksEffect_refused {op : BitVec 4} (m : Nat) (ahead : opcodeAhead tdi x = some op)
    (unlisted : listedOpcode op = false) : clocksEffect (List.replicate (m + 2) (true, tdi)) x = none := by
  simp only [List.replicate_succ, clocksEffect_cons]
  by_cases latches : tapNext x.1.tap.state true = .updateIr
  · rw [clockEffect_refused latches ahead unlisted]
    rfl
  · have second := (updateIr_ahead ahead).resolve_left latches
    have other : (riseEffect true tdi x).1.tap.state ≠ .updateIr := by simpa using latches
    obtain ⟨y, clock, _⟩ := fallEffect_of_not_updateIr other
    have clock : clockEffect x (true, tdi) = some y := clock
    have ahead' : opcodeAhead tdi y = some op := by
      rw [opcodeAhead_fall clock other, ← ahead, opcodeAhead_rise (x := x), if_neg latches]
    rw [clock, Option.bind_some, clockEffect_refused (by rw [clockEffect_state clock]; exact second) ahead' unlisted]
    rfl

/-- R233: from every state five ones lead to Test-Logic-Reset. -/
theorem foldl_tapNext_high (x : TapState) : (List.replicate 5 true).foldl tapNext x = .testLogicReset := by
  cases x <;> rfl

end

/-- The events of whole clocks with `tms` high. -/
theorem foldlM_tapEffect_high (m : Nat) (tdi : Option Bool) (x : Package × Nat) :
    (List.replicate m [TapEvent.rise (some true) tdi, .fall]).flatten.foldlM (fun x e => tapEffect e x) x =
      clocksEffect (List.replicate m (true, pulledUp tdi)) x := by
  induction m generalizing x with
  | zero => rfl
  | succ m ih =>
    rw [List.replicate_succ, List.replicate_succ, List.flatten_cons, List.foldlM_append, clocksEffect_cons]
    refine congrArg₂ Option.bind ?clock (funext ih)
    case clock => simp [tapEffect, clockEffect, pulledUp]

theorem listedOpcode_iff : ∀ op : BitVec 4, listedOpcode op = true ↔ op ∈ [0b0000#4, 0b0001#4, 0b0010#4, 0b1111#4] := by decide

/-- Settles O46: five clocks with `tms` high, which latch the opcode ahead of them if there is one. -/
theorem fiveEdgesReset : Obligations.FiveEdgesReset := by
  intro s p k tdi present
  have run := run_tapEvents present (List.replicate 5 [TapEvent.rise (some true) tdi, .fall]).flatten
  rw [foldlM_tapEffect_high] at run
  refine ⟨fun listed => ?reset, ?refused⟩
  case reset =>
    have listed' : ∀ op, opcodeAhead (pulledUp tdi) (k, s.fresh) = some op → listedOpcode op = true := fun op ahead =>
      (listedOpcode_iff op).2 (listed op ahead)
    obtain ⟨⟨k', n'⟩, clocks, kept⟩ := clocksEffect_high 5 listed'
    rw [clocks] at run
    have reset := (clocksEffect_state clocks).trans (foldl_tapNext_high _)
    exact ⟨_, k', run, putPackage_get_same present k', reset, clocksEffect_idcode (by simp) clocks reset, kept.lu, kept.iou,
      fun before ahead => (kept.cpu ⟨before, ahead⟩).2⟩
  case refused =>
    intro op ahead unlisted
    have unlisted' : listedOpcode op = false := Bool.eq_false_iff.2 fun listed => unlisted ((listedOpcode_iff op).1 listed)
    rw [opcodeOnTheWay_eq] at ahead
    rw [clocksEffect_refused 3 ahead unlisted'] at run
    exact run

end Sys2Proof.Machine
end


section
/-!
PROOFS. The scans of the JTAG rows (R120, R232, R240 to R242, log 30): the way to Select-IR-Scan and the instruction scan that makes
an opcode current.
-/

namespace Sys2Proof.Machine

/-! ### Bits of a word, and registers that shift (R122, R238) -/

@[simp] theorem length_bitsOf {m : Nat} (w : BitVec m) (n : Nat) : (bitsOf w n).length = n := by simp [bitsOf]

@[simp] theorem getElem_bitsOf {m : Nat} (w : BitVec m) (n i : Nat) (h : i < (bitsOf w n).length) :
    (bitsOf w n)[i] = w.getLsbD i := by simp [bitsOf]

theorem bitsOf_inj {n : Nat} {v w : BitVec n} (h : bitsOf v n = bitsOf w n) : v = w := by
  refine BitVec.eq_of_getLsbD_eq fun i hi => ?_
  have bit : (bitsOf v n)[i]? = (bitsOf w n)[i]? := by rw [h]
  simpa [bitsOf, hi] using bit

/-- A register that shifts towards bit 0: the bit that leaves it and the bits left are its bits and the one that enters. -/
theorem bitsOf_shiftDown {m n : Nat} (w : BitVec m) (b : Bool) :
    w.getLsbD 0 :: bitsOf (BitVec.ofBool b ++ w.extractLsb' 1 n) (n + 1) = bitsOf w (n + 1) ++ [b] := by
  refine List.ext_getElem (by simp) fun i hi _ => ?_
  simp only [List.length_cons, length_bitsOf] at hi
  cases i with
  | zero => simp
  | succ i =>
    by_cases last : i = n
    · simp [last, BitVec.getElem_append]
    · have : i < n := by omega
      simp [this, BitVec.getLsbD_append, Nat.add_comm]

/-- A register that shifts towards its last bit `n`. -/
theorem bitsOf_shiftUp {n : Nat} (w : BitVec (n + 1)) (b : Bool) :
    bitsOf ((w <<< 1) ||| (BitVec.ofBool b).setWidth (n + 1)) (n + 1) ++ [w.getLsbD n] = b :: bitsOf w (n + 1) := by
  refine List.ext_getElem (by simp) fun i hi _ => ?_
  simp only [List.length_append, length_bitsOf, List.length_singleton] at hi
  cases i with
  | zero => simp
  | succ i =>
    by_cases last : i = n
    · simp [last]
    · have : i < n := by omega
      simp [this, BitVec.getLsbD_eq_getElem (show i < n + 1 by omega)]

/-! ### Edges that only move the controller -/

/-- `k` with its controller in the state `x`. -/
def Package.inState (k : Package) (x : TapState) : Package := k.setTap { k.tap with state := x }

/-- On a rising edge from `x` nothing acts, and the state reached is neither Test-Logic-Reset nor one that latches. -/
def movesOnly (x : TapState) (tms : Bool) : Bool :=
  x ∉ [.captureDr, .shiftDr, .captureIr, .shiftIr] && tapNext x tms ∉ [.testLogicReset, .updateDr, .updateIr]

section
variable {k : Package} {t : Tap} {n : Nat} {x : TapState} {c : Bool × Bool}

@[simp] theorem Package.inState_tap : (k.inState x).tap = { k.tap with state := x } := rfl

@[simp] theorem Package.setTap_setTap (t' : Tap) : (k.setTap t).setTap t' = k.setTap t' := rfl

/-- A rising edge that does not reach Test-Logic-Reset leaves the processor as it is (R24, R236). -/
theorem riseEffect_of_ne {tms tdi : Bool} (h : tapNext k.tap.state tms ≠ .testLogicReset) : riseEffect tms tdi (k, n) =
    (k.setTap { actOnRise k n tdi with state := tapNext k.tap.state tms }, if drawsFree k.tap.state then n + 1 else n) := by
  have quiet : k.withTap { actOnRise k n tdi with state := tapNext k.tap.state tms } = k.setTap _ :=
    Package.withTap_eq_setTap (actOnRise_ir ..) (actOnRise_bsrLatch ..)
  rw [riseEffect, moveTo_of_ne h, quiet]

/-- A clock that reaches neither Test-Logic-Reset nor an Update state. -/
theorem clockEffect_quiet (h : tapNext k.tap.state c.1 ∉ [.testLogicReset, .updateDr, .updateIr]) : clockEffect (k, n) c =
    some (k.setTap { actOnRise k n c.2 with state := tapNext k.tap.state c.1 }, if drawsFree k.tap.state then n + 1 else n) := by
  simp only [List.mem_cons, List.not_mem_nil, or_false, not_or] at h
  obtain ⟨reset, dr, ir⟩ := h
  rw [clockEffect_of_ne dr ir, riseEffect_of_ne reset]

theorem actOnRise_of_not_mem {tdi : Bool} (h : k.tap.state ∉ [.captureDr, .shiftDr, .captureIr, .shiftIr]) :
    actOnRise k n tdi = k.tap := by
  unfold actOnRise
  split <;> simp_all

theorem clockEffect_movesOnly (h : movesOnly x c.1 = true) :
    clockEffect (k.inState x, n) c = some (k.inState (tapNext x c.1), n) := by
  simp only [movesOnly, Bool.and_eq_true, decide_eq_true_eq] at h
  obtain ⟨idle, quiet⟩ := h
  have draws : drawsFree x = false := by cases x <;> simp_all [drawsFree]
  rw [clockEffect_quiet quiet, actOnRise_of_not_mem idle]
  simp [draws, Package.inState]

end

/-- Every edge of the way `l` from `x` only moves the controller. -/
def wayMovesOnly (x : TapState) : List Bool → Bool
  | [] => true
  | b :: l => movesOnly x b && wayMovesOnly (tapNext x b) l

theorem clocksEffect_movesOnly (k : Package) (n : Nat) {x : TapState} {l : List Bool} (h : wayMovesOnly x l = true) :
    clocksEffect (moves l) (k.inState x, n) = some (k.inState (l.foldl tapNext x), n) := by
  induction l generalizing x with
  | nil => rfl
  | cons b l ih =>
    obtain ⟨first, rest⟩ := Bool.and_eq_true_iff.1 h
    rw [moves, List.map_cons, clocksEffect_cons, clockEffect_movesOnly first]
    exact ih rest

/-- From these states the way to Select-IR-Scan touches nothing (R234). -/
theorem clocksEffect_toSelectIr (k : Package) (n : Nat) (h : k.tap.state ∈ [.testLogicReset, .runTestIdle, .selectIr]) :
    clocksEffect (moves (pathToSelectIr k.tap.state)) (k, n) = some (k.inState .selectIr, n) := by
  have way : ∀ x ∈ [TapState.testLogicReset, .runTestIdle, .selectIr],
      wayMovesOnly x (pathToSelectIr x) = true ∧ (pathToSelectIr x).foldl tapNext x = .selectIr := by decide
  obtain ⟨quiet, ends⟩ := way _ h
  exact (clocksEffect_movesOnly k n quiet).trans (by rw [ends])

/-! ### The instruction scan (R122, R240 to R242) -/

/-- The stream of bits through the stages of the instruction register. -/
theorem foldl_shiftIr (l : List Bool) (t : Tap) : ∃ w out,
    l.foldl (fun t b => shiftIr b t) t = { t with irShift := w, scanOut := out } ∧
      out ++ bitsOf w 4 = t.scanOut ++ bitsOf t.irShift 4 ++ l := by
  induction l generalizing t with
  | nil => exact ⟨_, _, rfl, by simp⟩
  | cons b l ih =>
    obtain ⟨w, out, fold, stream⟩ := ih (shiftIr b t)
    refine ⟨w, out, fold, ?_⟩
    calc out ++ bitsOf w 4
      _ = t.scanOut ++ (t.irShift.getLsbD 0 :: bitsOf (shiftIr b t).irShift 4) ++ l := by rw [stream]; simp [shiftIr]
      _ = t.scanOut ++ (bitsOf t.irShift 4 ++ [b]) ++ l := by rw [shiftIr, bitsOf_shiftDown (n := 3)]
      _ = t.scanOut ++ bitsOf t.irShift 4 ++ b :: l := by simp

/-- Clocks that shift the stream `l`, at whose last bit the controller leaves the shift state `x`. -/
theorem clocksEffect_shifts {x : TapState} {act : Bool → Tap → Tap} (k : Package) (n : Nat) (shifting : tapNext x false = x)
    (quiet : ∀ b, tapNext x b ∉ [.testLogicReset, .updateDr, .updateIr]) (draws : drawsFree x = false)
    (acts : ∀ (k : Package) (b : Bool), k.tap.state = x → actOnRise k n b = act b k.tap)
    (keeps : ∀ (b : Bool) (t : Tap), (act b t).state = t.state) {l : List Bool} (nonempty : l ≠ []) {t : Tap}
    (state : t.state = x) :
    clocksEffect (shifts l) (k.setTap t, n) =
      some (k.setTap { l.foldl (fun t b => act b t) t with state := tapNext x true }, n) := by
  have clock : ∀ (t : Tap) (c : Bool × Bool), t.state = x →
      clockEffect (k.setTap t, n) c = some (k.setTap { act c.2 t with state := tapNext x c.1 }, n) := by
    intro t c state
    have now : (k.setTap t).tap.state = x := state
    rw [clockEffect_quiet (by rw [now]; exact quiet c.1), now, acts _ _ now, draws]
    rfl
  induction l generalizing t with
  | nil => exact absurd rfl nonempty
  | cons b l ih =>
    match l with
    | [] =>
      rw [shifts, clocksEffect_cons, clock t _ state]
      rfl
    | b' :: l =>
      have stays : { act b t with state := x } = act b t := by rw [← state, ← keeps b t]
      rw [shifts, clocksEffect_cons, clock t _ state, shifting, stays]
      · exact ih (by simp) ((keeps b t).trans state)
      · simp

/-- R242: `k` after an instruction scan of `op`, which showed `out` on `tdo`. -/
def Package.loaded (k : Package) (op : BitVec 4) (out : List Bool) : Package :=
  (k.marked (op == extestOpcode)).withTap { k.tap with state := .runTestIdle, irShift := op, ir := op, scanOut := out }

/-- Shift stages that are not latched have no part in what the pins do. -/
theorem cpuAfter_setTap {k : Package} {t : Tap} (ir : t.ir = k.tap.ir) (latch : t.bsrLatch = k.tap.bsrLatch) (k' : Package) :
    cpuAfter (k.setTap t) k' = cpuAfter k k' := cpuAfter_congr rfl (cpuReset_congr ir latch rfl) rfl

theorem Package.withTap_setTap {k : Package} {t : Tap} (ir : t.ir = k.tap.ir) (latch : t.bsrLatch = k.tap.bsrLatch) (t' : Tap) :
    (k.setTap t).withTap t' = k.withTap t' :=
  congrArg (fun c => { k.setTap t' with cpu := c }) (cpuAfter_setTap ir latch _)

theorem Package.latched_setTap {k : Package} {t : Tap} (ir : t.ir = k.tap.ir) (latch : t.bsrLatch = k.tap.bsrLatch) :
    (k.setTap t).latched = (k.marked (t.irShift == extestOpcode)).withTap { t with ir := t.irShift } :=
  congrArg (fun c => { (k.marked (t.irShift == extestOpcode)).setTap { t with ir := t.irShift } with cpu := c })
    (cpuAfter_setTap ir latch _)

/-- The four bits the instruction scan shows on `tdo`: those captured (R240). -/
def capturedIr (n : Nat) : List Bool := bitsOf (Config.freeCaptureIr n ++ 0b01#2) 4

/-- The four bits of an opcode push out the four captured ones. -/
theorem clocksEffect_opcodeBits (k : Package) (m n : Nat) (op : BitVec 4) :
    clocksEffect (shifts (opcodeBits op)) (k.setTap { captureIr m k.tap with state := .shiftIr }, n) =
      some (k.setTap { k.tap with state := .exit1Ir, irShift := op, scanOut := capturedIr m }, n) := by
  obtain ⟨w, out, fold, stream⟩ := foldl_shiftIr (opcodeBits op) { captureIr m k.tap with state := .shiftIr }
  obtain ⟨rfl, scanned⟩ : out = capturedIr m ∧ bitsOf w 4 = opcodeBits op := List.append_inj' stream (by simp [opcodeBits])
  obtain rfl : w = op := bitsOf_inj scanned
  have shift := clocksEffect_shifts (x := .shiftIr) (act := shiftIr) k n rfl (by decide) rfl
    (fun k b h => by simp [actOnRise, h]) (fun _ _ => rfl) (l := opcodeBits w) (by simp [opcodeBits])
    (t := { captureIr m k.tap with state := .shiftIr }) rfl
  rw [fold] at shift
  exact shift

/-- R240, G4: the captured pattern shows as 1 and then 0, and two free bits. -/
theorem capturedIr_pattern (n : Nat) : (capturedIr n).take 2 = [true, false] := by
  have fixed : ∀ i < 2, (Config.freeCaptureIr n ++ 0b01#2).getLsbD i = (0b01#2).getLsbD i := fun i low => by
    rw [BitVec.getLsbD_append, if_pos low]
  calc (capturedIr n).take 2
    _ = [(Config.freeCaptureIr n ++ 0b01#2).getLsbD 0, (Config.freeCaptureIr n ++ 0b01#2).getLsbD 1] := rfl
    _ = [true, false] := by rw [fixed 0 (by decide), fixed 1 (by decide)]; rfl

theorem clocksEffect_instructionScan (k : Package) (n : Nat) {op : BitVec 4} (listed : listedOpcode op = true) :
    clocksEffect (instructionScan op) (k.inState .selectIr, n) = some (k.loaded op (capturedIr n), n + 1) := by
  have toCapture : clockEffect (k.inState .selectIr, n) (false, true) = some (k.inState .captureIr, n) :=
    clockEffect_movesOnly rfl
  have capture : clockEffect (k.inState .captureIr, n) (false, true) =
      some (k.setTap { captureIr n k.tap with state := .shiftIr }, n + 1) := clockEffect_quiet (by simp [tapNext])
  have latch : clockEffect (k.setTap { k.tap with state := .exit1Ir, irShift := op, scanOut := capturedIr n }, n + 1)
      (true, true) = some ((k.loaded op (capturedIr n)).inState .updateIr, n + 1) := by
    rw [clockEffect_updateIr rfl, riseEffect_of_ne (by simp [tapNext]), if_pos (by exact listed)]
    exact congrArg (fun k' => some (k', n + 1)) (Package.latched_setTap (k := k) rfl rfl)
  have toIdle : clockEffect ((k.loaded op (capturedIr n)).inState .updateIr, n + 1) (false, true) =
      some (k.loaded op (capturedIr n), n + 1) := clockEffect_movesOnly rfl
  have clocks : instructionScan op =
      [(false, true), (false, true)] ++ shifts (opcodeBits op) ++ [(true, true), (false, true)] := rfl
  simp only [clocks, clocksEffect_append, clocksEffect_cons, toCapture, capture, clocksEffect_opcodeBits, latch, toIdle,
    Option.bind_some, clocksEffect_nil]

/-! ### The rows -/

/-- The clocks of a row from Select-IR-Scan. -/
def scanClocks (op : BitVec 4) (l : List Bool) : List (Bool × Bool) := instructionScan op ++ if l = [] then [] else dataScan l

/-- The opcodes of the rows with an effect (R251 to R254). -/
def listedOpcodes : List (BitVec 4) := [0b0000#4, 0b0001#4, 0b0010#4, 0b1111#4]

theorem listed_of_mem {op : BitVec 4} (h : op ∈ listedOpcodes) : listedOpcode op = true := (listedOpcode_iff op).2 h

section
variable {s : State} {p : Nat} {k : Package} {op : BitVec 4}

theorem tapClocks_append (l l' : List (Bool × Bool)) : tapClocks p (l ++ l') s = andThen (tapClocks p l s) (tapClocks p l') := by
  induction l generalizing s with
  | nil => rfl
  | cons c l ih =>
    rw [List.cons_append, tapClocks, tapClocks, andThen_assoc]
    exact congrArg _ (funext fun _ => ih)

theorem loadAndScan_of (present : s.packages[p]? = some k) (op : BitVec 4) (l : List Bool) :
    loadAndScan p op l s = tapClocks p (moves (pathToSelectIr k.tap.state) ++ scanClocks op l) s := by
  rw [loadAndScan, withPackage_of _ present, tapClocks_append]
  refine congrArg _ (funext fun t => ?_)
  rw [scanClocks, tapClocks_append]
  split <;> rfl

theorem exec_listed (h : op ∈ listedOpcodes) (p : Nat) (l : List Bool) : exec (jtagInstr op p l) = loadAndScan p op l := by
  funext s
  rw [exec_jtagInstr, if_pos (listed_of_mem h)]

/-- `clockTap` is `tapClocks` with `tdi` high. -/
theorem clockTap_eq (p : Nat) (l : List Bool) (s : State) : clockTap p l s = tapClocks p (moves l) s := by
  induction l generalizing s with
  | nil => rfl
  | cons b l ih =>
    rw [moves, List.map_cons, tapClocks, tapClock, andThen_assoc]
    refine congrArg (andThen (tapRise p (some b) (some true) s)) (funext fun t => ?_)
    exact congrArg (andThen (tapFall p t)) (funext ih)

theorem length_pathToSelectIr (x : TapState) : (pathToSelectIr x).length ≤ 4 := by cases x <;> decide

theorem foldl_pathToSelectIr (x : TapState) : (pathToSelectIr x).foldl tapNext x = .selectIr := by cases x <;> rfl

theorem map_fst_moves (l : List Bool) : (moves l).map Prod.fst = l := by
  simp [moves, Function.comp_def]

/-- After the way to Select-IR-Scan a row does what it does from there. -/
theorem loadAndScan_way (present : s.packages[p]? = some k) (op : BitVec 4) (l : List Bool) :
    loadAndScan p op l s = andThen (clockTap p (pathToSelectIr k.tap.state) s) (loadAndScan p op l) := by
  rw [loadAndScan_of present, tapClocks_append, clockTap_eq, tapClocks_of present]
  match way : clocksEffect (moves (pathToSelectIr k.tap.state)) (k, s.fresh) with
  | none => rfl
  | some (k', n') =>
    have state : k'.tap.state = .selectIr := by
      rw [clocksEffect_state way, map_fst_moves, foldl_pathToSelectIr]
    have present' : (s.putPackage p k').packages[p]? = some k' := putPackage_get_same present k'
    have rest := loadAndScan_of (s := { s.putPackage p k' with fresh := n' }) present' op l
    rw [state] at rest
    exact rest.symm

/-- From a state where the way touches nothing a row loads its opcode, and then scans its stream. -/
theorem loadAndScan_direct (present : s.packages[p]? = some k)
    (state : k.tap.state ∈ [.testLogicReset, .runTestIdle, .selectIr]) (listed : listedOpcode op = true) (l : List Bool) :
    loadAndScan p op l s = s.afterTap p
      (clocksEffect (if l = [] then [] else dataScan l) (k.loaded op (capturedIr s.fresh), s.fresh + 1)) := by
  rw [loadAndScan_of present, tapClocks_of present, scanClocks, clocksEffect_append, clocksEffect_toSelectIr k _ state,
    Option.bind_some, clocksEffect_append, clocksEffect_instructionScan k _ listed, Option.bind_some]

end

/-- Settles O50: the way is that of `pathToSelectIr`. -/
theorem jtagRowsFromAnywhere : Obligations.JtagRowsFromAnywhere := by
  intro s p k l present
  refine ⟨pathToSelectIr k.tap.state, length_pathToSelectIr _, foldl_pathToSelectIr _, ?rows⟩
  case rows =>
    refine List.forall_mem_map (l := listedOpcodes) (f := jtagInstr).2 fun op mem => ?_
    rw [exec_listed mem]
    exact loadAndScan_way present op l

/-- Settles O49: the way touches nothing, the instruction scan loads the opcode, and there is no stream. -/
theorem jtagRowsLoad : Obligations.JtagRowsLoad := by
  intro s p k present state
  refine ⟨capturedIr s.fresh, ?rows, ?pattern, length_bitsOf ..⟩
  case rows =>
    refine List.forall_mem_map (l := listedOpcodes) (f := fun op => (jtagInstr op p [], op, op == extestOpcode)).2
      fun op mem => ?_
    refine ⟨k.loaded op (capturedIr s.fresh), rfl, ?_⟩
    rw [exec_listed mem, loadAndScan_direct present state (listed_of_mem mem)]
    rfl
  case pattern => exact capturedIr_pattern _

end Sys2Proof.Machine
end


section
/-!
PROOFS. The data scan (R237 to R239, R250, R254): what shows on `tdo` is the captured register and then the stream; what stays in
the shift stages is latched if it is the boundary scan register.
-/

namespace Sys2Proof.Machine

/-! ### The register between `tdi` and `tdo` (R238) -/

/-- The bits of the register the instruction selects, in the order in which they reach `tdo`. -/
def Tap.register (t : Tap) : List Bool :=
  match selected t.ir with
  | .boundary _ => (bitsOf t.bsrShift 137).reverse
  | .device => bitsOf t.didShift 32
  | .bypass => [t.bypass]
  | .nothing => []

theorem Tap.length_register {t t' : Tap} (ir : t'.ir = t.ir) : t'.register.length = t.register.length := by
  unfold register
  rw [ir]
  split <;> simp

theorem shiftDr_ir (b : Bool) (t : Tap) : (shiftDr b t).ir = t.ir := by unfold shiftDr; split <;> rfl

theorem shiftDr_state (b : Bool) (t : Tap) : (shiftDr b t).state = t.state := by unfold shiftDr; split <;> rfl

theorem shiftDr_bsrLatch (b : Bool) (t : Tap) : (shiftDr b t).bsrLatch = t.bsrLatch := by unfold shiftDr; split <;> rfl

/-- R238: what has shown on `tdo` and what the register holds take the bit at their end. -/
theorem shiftDr_stream {t : Tap} (listed : listedOpcode t.ir = true) (b : Bool) :
    (shiftDr b t).scanOut ++ (shiftDr b t).register = t.scanOut ++ t.register ++ [b] := by
  simp only [Tap.register, shiftDr_ir]
  unfold shiftDr
  cases sel : selected t.ir with
  | boundary sample =>
    simpa using congrArg List.reverse (bitsOf_shiftUp (n := 136) t.bsrShift b)
  | device => simp [← bitsOf_shiftDown (n := 31) t.didShift b]
  | bypass => simp
  | nothing => simp [listedOpcode, sel] at listed

theorem foldl_shiftDr (l : List Bool) {t : Tap} (listed : listedOpcode t.ir = true) :
    (l.foldl (fun t b => shiftDr b t) t).ir = t.ir ∧ (l.foldl (fun t b => shiftDr b t) t).bsrLatch = t.bsrLatch ∧
      (l.foldl (fun t b => shiftDr b t) t).scanOut ++ (l.foldl (fun t b => shiftDr b t) t).register =
        t.scanOut ++ t.register ++ l := by
  induction l generalizing t with
  | nil => simp
  | cons b l ih =>
    obtain ⟨ir, latch, stream⟩ := ih (t := shiftDr b t) (by rw [shiftDr_ir]; exact listed)
    exact ⟨ir.trans (shiftDr_ir b t), latch.trans (shiftDr_bsrLatch b t), by simp [stream, shiftDr_stream listed]⟩

theorem captureDr_ir (k : Package) (n : Nat) : (captureDr k n).ir = k.tap.ir := by unfold captureDr; dsimp only; split <;> rfl

theorem captureDr_bsrLatch (k : Package) (n : Nat) : (captureDr k n).bsrLatch = k.tap.bsrLatch := by
  unfold captureDr; dsimp only; split <;> rfl

theorem captureDr_scanOut (k : Package) (n : Nat) : (captureDr k n).scanOut = [] := by
  unfold captureDr; dsimp only; split <;> rfl

theorem updateDr_scanOut (t : Tap) : (updateDr t).scanOut = t.scanOut := by unfold updateDr; split <;> rfl

theorem updateDr_register (t : Tap) : (updateDr t).register = t.register := by unfold updateDr; split <;> rfl

/-- R239: only the boundary scan register has a latch. -/
theorem updateDr_of_boundary {t : Tap} {sample : Bool} (h : selected t.ir = .boundary sample) :
    updateDr t = { t with bsrLatch := t.bsrShift } := by
  simp only [updateDr, h]

theorem updateDr_of_ne {t : Tap} (h : ∀ sample, selected t.ir ≠ .boundary sample) : updateDr t = t := by
  unfold updateDr
  split
  · exact absurd ‹_› (h _)
  · rfl

/-! ### The scan -/

/-- The TAP of `k` after Capture-DR, at the count `n` of free values. -/
def Package.captured (k : Package) (n : Nat) : Tap := { captureDr (k.inState .captureDr) n with state := .shiftDr }

/-- The TAP of `k` after Capture-DR and the shift of `l`. -/
def Package.shifted (k : Package) (n : Nat) (l : List Bool) : Tap := l.foldl (fun t b => shiftDr b t) (k.captured n)

/-- `t` is what the data scan of the stream `l` makes of the TAP of `k`, at the count `n` of free values. -/
structure Scanned (k : Package) (n : Nat) (l : List Bool) (t : Tap) : Prop where
  state : t.state = .runTestIdle
  ir : t.ir = k.tap.ir
  stream : t.scanOut ++ t.register = (k.captured n).register ++ l
  latch : ∀ sample, selected k.tap.ir = .boundary sample → t.bsrLatch = t.bsrShift
  kept : (∀ sample, selected k.tap.ir ≠ .boundary sample) → t.bsrLatch = k.tap.bsrLatch

section
variable {k : Package} {n : Nat} {l : List Bool} {t : Tap}

theorem Package.captured_ir : (k.captured n).ir = k.tap.ir := captureDr_ir (k.inState .captureDr) n

theorem Scanned.length_register (h : Scanned k n l t) : t.register.length = (k.captured n).register.length :=
  Tap.length_register (h.ir.trans Package.captured_ir.symm)

theorem Scanned.length_scanOut (h : Scanned k n l t) : t.scanOut.length = l.length := by
  have lengths := congrArg List.length h.stream
  have register := h.length_register
  simp only [List.length_append] at lengths
  omega

/-- What shows on `tdo` is the captured register, and then the stream. -/
theorem Scanned.scanOut (h : Scanned k n l t) : t.scanOut = ((k.captured n).register ++ l).take l.length := by
  rw [← h.stream, List.take_left' h.length_scanOut]

/-- What stays in the register is the end of it. -/
theorem Scanned.register (h : Scanned k n l t) : t.register = ((k.captured n).register ++ l).drop l.length := by
  rw [← h.stream, List.drop_left' h.length_scanOut]

theorem Package.shifted_spec (listed : listedOpcode k.tap.ir = true) :
    (k.shifted n l).ir = k.tap.ir ∧ (k.shifted n l).bsrLatch = k.tap.bsrLatch ∧
      (k.shifted n l).scanOut ++ (k.shifted n l).register = (k.captured n).register ++ l := by
  obtain ⟨ir, latch, stream⟩ := foldl_shiftDr l (t := k.captured n) (by rw [captured_ir]; exact listed)
  refine ⟨ir.trans captured_ir, latch.trans (captureDr_bsrLatch (k.inState .captureDr) n), stream.trans ?_⟩
  rw [show (k.captured n).scanOut = [] from captureDr_scanOut (k.inState .captureDr) n, List.nil_append]

theorem scanned_shifted (listed : listedOpcode k.tap.ir = true) :
    Scanned k n l { updateDr (k.shifted n l) with state := .runTestIdle } := by
  obtain ⟨ir, latch, stream⟩ := Package.shifted_spec (n := n) (l := l) listed
  refine ⟨rfl, (updateDr_ir _).trans ir, ?stream, fun sample boundary => ?latch, fun other => ?kept⟩
  case stream => exact (congrArg₂ (· ++ ·) (updateDr_scanOut _) (updateDr_register _)).trans stream
  case latch => rw [updateDr_of_boundary (ir ▸ boundary)]
  case kept => rw [updateDr_of_ne (ir ▸ other), latch]

theorem Package.inState_self {x : TapState} (h : k.tap.state = x) : k.inState x = k := by
  subst h
  rfl

theorem updateDr_withState (t : Tap) (x : TapState) : updateDr { t with state := x } = { updateDr t with state := x } := by
  unfold updateDr
  dsimp only
  split <;> rfl

/-- R239: the edge in Update-DR, after a shift. -/
theorem clockEffect_update (listed : listedOpcode k.tap.ir = true) :
    clockEffect (k.setTap { k.shifted n l with state := .exit1Dr }, n + 1) (true, true) =
      some ((k.withTap (updateDr (k.shifted n l))).inState .updateDr, n + 1) := by
  obtain ⟨ir, latch, -⟩ := Package.shifted_spec (n := n) (l := l) listed
  rw [clockEffect_updateDr rfl, riseEffect_of_ne (by simp [tapNext])]
  exact congrArg (fun k' => some (k', n + 1)) ((Package.withTap_setTap ir latch _).trans
    (congrArg k.withTap (updateDr_withState (k.shifted n l) .updateDr)))

theorem clocksEffect_dataScan (state : k.tap.state = .runTestIdle) (listed : listedOpcode k.tap.ir = true) (nonempty : l ≠ []) :
    ∃ t, clocksEffect (dataScan l) (k, n) = some (k.withTap t, n + 1) ∧ Scanned k n l t := by
  refine ⟨{ updateDr (k.shifted n l) with state := .runTestIdle }, ?clocks, scanned_shifted listed⟩
  have toSelect : clockEffect (k, n) (true, true) = some (k.inState .selectDr, n) := by
    rw [← Package.inState_self state]
    exact clockEffect_movesOnly rfl
  have toCapture : clockEffect (k.inState .selectDr, n) (false, true) = some (k.inState .captureDr, n) :=
    clockEffect_movesOnly rfl
  have capture : clockEffect (k.inState .captureDr, n) (false, true) = some (k.setTap (k.captured n), n + 1) :=
    clockEffect_quiet (by simp [tapNext])
  have shift : clocksEffect (shifts l) (k.setTap (k.captured n), n + 1) =
      some (k.setTap { k.shifted n l with state := .exit1Dr }, n + 1) :=
    clocksEffect_shifts (x := .shiftDr) (act := shiftDr) k (n + 1) rfl (by decide) rfl (fun k b h => by simp [actOnRise, h])
      shiftDr_state nonempty rfl
  have toIdle : clockEffect ((k.withTap (updateDr (k.shifted n l))).inState .updateDr, n + 1) (false, true) =
      some (k.withTap { updateDr (k.shifted n l) with state := .runTestIdle }, n + 1) := clockEffect_movesOnly rfl
  have clocks : dataScan l = [(true, true), (false, true), (false, true)] ++ shifts l ++ [(true, true), (false, true)] := rfl
  simp only [clocks, clocksEffect_append, clocksEffect_cons, toSelect, toCapture, capture, shift, clockEffect_update listed,
    toIdle, Option.bind_some, clocksEffect_nil]

end

/-! ### A row with a stream -/

section
variable {s : State} {p : Nat} {k : Package} {op : BitVec 4} {l : List Bool}

/-- A row with a stream loads its opcode and makes one data scan. -/
theorem exec_row (present : s.packages[p]? = some k) (state : k.tap.state ∈ [.testLogicReset, .runTestIdle, .selectIr])
    (mem : op ∈ listedOpcodes) (nonempty : l ≠ []) : ∃ t,
      exec (jtagInstr op p l) s =
        .next { s.putPackage p ((k.loaded op (capturedIr s.fresh)).withTap t) with fresh := s.fresh + 1 + 1 } ∧
      Scanned (k.loaded op (capturedIr s.fresh)) (s.fresh + 1) l t := by
  have listed := listed_of_mem mem
  obtain ⟨t, clocks, scanned⟩ :=
    clocksEffect_dataScan (k := k.loaded op (capturedIr s.fresh)) (n := s.fresh + 1) rfl listed nonempty
  refine ⟨t, ?_, scanned⟩
  rw [exec_listed mem, loadAndScan_direct present state listed, if_neg nonempty, clocks]
  rfl

/-- The latched cells matter to the processor under extest only: under another instruction the scan leaves it as the load of the
opcode did. -/
theorem loaded_withTap {out : List Bool} {t : Tap} (other : op ≠ extestOpcode) (ir : t.ir = op) :
    (k.loaded op out).withTap t = k.withTap t := by
  have load : cpuReset (k.loaded op out) = k.lu.prst := cpuReset_of_not_extest other
  have scan : ∀ k' : Package, k'.tap = t → k'.lu = k.lu → cpuReset k' = k.lu.prst := fun k' tap lu => by
    rw [← lu]
    exact cpuReset_of_not_extest (by rw [tap, ir]; exact other)
  have mark : (k.needsReset || op == extestOpcode) = k.needsReset := by simp [other]
  have cpu : cpuAfter (k.loaded op out) ((k.loaded op out).setTap t) = cpuAfter k (k.setTap t) := by
    rw [cpuAfter_of_eq ((scan ((k.loaded op out).setTap t) rfl rfl).trans load.symm)]
    exact cpuAfter_congr rfl rfl (load.trans (scan (k.setTap t) rfl rfl).symm)
  exact congrArg₂ (fun c b => { k with tap := t, cpu := c, needsReset := b }) cpu mark

theorem exec_row_of_not_extest (present : s.packages[p]? = some k)
    (state : k.tap.state ∈ [.testLogicReset, .runTestIdle, .selectIr]) (mem : op ∈ listedOpcodes) (other : op ≠ extestOpcode)
    (nonempty : l ≠ []) : ∃ t,
      exec (jtagInstr op p l) s = .next { s.putPackage p (k.withTap t) with fresh := s.fresh + 1 + 1 } ∧
      Scanned (k.loaded op (capturedIr s.fresh)) (s.fresh + 1) l t := by
  obtain ⟨t, scan, scanned⟩ := exec_row present state mem nonempty
  exact ⟨t, loaded_withTap other scanned.ir ▸ scan, scanned⟩

end

/-- Settles O51: the captured registers are the device ID and a single 0. -/
theorem jtagDataScans : Obligations.JtagDataScans := by
  intro s p k l present state nonempty
  refine ⟨?idcode, ?bypass⟩
  case idcode =>
    have device : ∀ sample, selected 0b0010#4 ≠ .boundary sample := by decide
    obtain ⟨t, scan, scanned⟩ := exec_row_of_not_extest (op := 0b0010#4) present state (by decide) (by decide) nonempty
    exact ⟨_, _, scan, putPackage_get_same present _, scanned.scanOut, scanned.kept device, rfl⟩
  case bypass =>
    have single : ∀ sample, selected 0b1111#4 ≠ .boundary sample := by decide
    obtain ⟨t, scan, scanned⟩ := exec_row_of_not_extest (op := 0b1111#4) present state (by decide) (by decide) nonempty
    refine ⟨_, _, scan, putPackage_get_same present _, scanned.scanOut.trans ?delayed, scanned.kept single, rfl⟩
    case delayed =>
      rw [List.dropLast_eq_take]
      cases l with
      | nil => exact absurd rfl nonempty
      | cons b r => rfl

end Sys2Proof.Machine
end


section
/-!
PROOFS. The boundary scan register (R252, R253, R260): what its cells capture, what a scan of all 137 of them leaves in the latch,
and what the latched cells drive under extest.
-/

namespace Sys2Proof.Machine

/-! ### The pins under extest and under another instruction (R245, R252) -/

section
variable {k : Package}

/-- R245: under another instruction than extest the four pins are what the unit drives. -/
theorem pins_of_not_extest (h : k.tap.ir ≠ extestOpcode) : pinPint k = k.lu.pint ∧ pinPnmi k = k.lu.pnmi ∧
    pinPrst k = driven k.lu.prst ∧ pinExtInta k = driven k.lu.extInta := by
  have cut : scanDriven k.tap = false := by simpa [scanDriven] using h
  simp [pinPint, pinPnmi, pinPrst, pinExtInta, cut]

/-- The cells that stand for the pins of the local unit (R260). -/
def unitCells : List (Signal × Nat) := [(.pint, 118), (.pnmi, 120), (.prst, 122), (.extInta, 124)]

/-- R252: under extest cell `d` drives its pin, as its control cell says. -/
theorem pinLevel_of_extest (h : k.tap.ir = extestOpcode) {x : Signal} {d c : Nat} (control : controlCell x = some c)
    (place : ∀ y ∈ unitCells, x = y.1 → d + 1 = y.2) : pinLevel k d x = some (scanDrive k.tap (d + 1) c) := by
  have on : scanDriven k.tap = true := by simpa [scanDriven] using h
  cases x <;> simp_all [unitCells, controlCell, pinLevel, pinPint, pinPnmi, pinPrst, pinExtInta]

/-- R260: each named output stands in the scan path with its control cell. -/
theorem outputCells_spec : ∀ x ∈ outputCells, ∃ c, scanCells[x.1 - 1]? = some c ∧ controlCell c.signal = some x.2 ∧
    x.1 - 1 + 1 = x.1 ∧ ∀ y ∈ unitCells, c.signal = y.1 → x.1 = y.2 := by
  have cells : ∀ x ∈ outputCells, (scanCells[x.1 - 1]?).any fun c => controlCell c.signal = some x.2 ∧
      x.1 - 1 + 1 = x.1 ∧ ∀ y ∈ unitCells, c.signal = y.1 → x.1 = y.2 := by decide +kernel
  intro x mem
  simpa [Option.any_eq_true] using cells x mem

theorem scanDrive_eq (t : Tap) (d c : Nat) : scanDrive t d c =
    if t.bsrLatch.getLsbD (c - 1) = Config.controlEnables then (if t.bsrLatch.getLsbD (d - 1) then .high else .low) else .z := by
  simp [scanDrive]

/-- Settles O54: each named output by its place in the scan path, the processor's inputs by the four pins. -/
theorem extestDrivesPins : Obligations.ExtestDrivesPins := by
  intro k
  refine ⟨fun extest x mem => ?outputs, fun other => ?unit, ?int, ?nmi, fun driven => ?reset⟩
  case outputs =>
    obtain ⟨c, cell, control, place, unit⟩ := outputCells_spec x mem
    refine ⟨c, cell, ?_⟩
    rw [pinLevel_of_extest extest control (by rw [place]; exact unit), place, scanDrive_eq]
  case unit =>
    obtain ⟨pint, pnmi, prst, extInta⟩ := pins_of_not_extest other
    simp only [pinLevel, pint, pnmi, prst, extInta, driven, and_self]
  case int => simp [cpuInt, pinLevel]
  case nmi => simp [cpuNmi, pinLevel]
  case reset =>
    simp only [pinLevel, ne_eq, Option.some.injEq] at driven ⊢
    cases pin : pinPrst k <;> simp_all [cpuReset]

end

/-! ### What the cells capture (R252, R253) -/

section
variable {k : Package} {sample free : Bool} {w : ScanPath}

theorem getLsbD_captureFrom (l : List Cell) (c i : Nat) {x : Cell} (cell : l[i]? = some x) (inside : c + i < 137) :
    (captureFrom k sample w c l).getLsbD (c + i) = captureCell k sample (w.getLsbD (c + i)) (c + i) x := by
  induction l generalizing c i with
  | nil => simp at cell
  | cons y l ih =>
    rw [captureFrom, getLsbD_setBit _ _ _ inside]
    cases i with
    | zero =>
      obtain rfl : y = x := by simpa using cell
      exact if_pos rfl
    | succ i =>
      rw [if_neg (by omega), show c + (i + 1) = c + 1 + i by omega]
      exact ih (c + 1) i (by simpa using cell) (by omega)

theorem length_scanCells : scanCells.length = 137 := by decide +kernel

theorem cell_lt {i : Nat} {x : Cell} (cell : scanCells[i]? = some x) : i < 137 :=
  length_scanCells ▸ (List.getElem?_eq_some_iff.1 cell).1

theorem getLsbD_captureScan {i : Nat} {x : Cell} (cell : scanCells[i]? = some x) :
    (captureScan k sample w).getLsbD i = captureCell k sample (w.getLsbD i) i x := by
  have inside : 0 + i < 137 := by rw [Nat.zero_add]; exact cell_lt cell
  have captured := getLsbD_captureFrom (k := k) (sample := sample) (w := w) scanCells 0 i cell inside
  rwa [Nat.zero_add] at captured

theorem scanOutput_of_not_extest {t : Tap} (h : t.ir ≠ extestOpcode) (x : Signal) : scanOutput t x = false := by
  unfold scanOutput
  split
  · simp [scanDriven, h]
  · rfl

theorem scanOutput_of_no_control {t : Tap} {x : Signal} (h : controlCell x = none) : scanOutput t x = false := by
  rw [scanOutput, h]

theorem scanOutput_of_disabled {t : Tap} {x : Signal} {c : Nat} (control : controlCell x = some c)
    (disabled : t.bsrLatch.getLsbD (c - 1) ≠ Config.controlEnables) : scanOutput t x = false := by
  simp [scanOutput, control, disabled]

/-- R260: an input cell has no control cell. -/
theorem inputCells_spec : ∀ c ∈ scanCells, c.type = .i → controlCell c.signal = none := by decide +kernel

/-- R260: the pins of the local unit are outputs. -/
theorem unitCells_spec : ∀ c ∈ scanCells, c.type ≠ .t → ∀ y ∈ unitCells, c.signal ≠ y.1 := by decide +kernel

/-- Where the sources say what a cell samples it captures that, if its pin is not an output of the scan path and, being an output
of the unit, if the instruction is sample/preload. -/
theorem captureCell_of_sampled {i : Nat} {x : Cell} {b : Bool} (sampled : sampledCell k i x.signal = some b)
    (input : scanOutput k.tap x.signal = false) (unit : sample = true ∨ ∀ y ∈ unitCells, x.signal ≠ y.1) :
    captureCell k sample free i x = b := by
  obtain ⟨type, signal⟩ := x
  cases signal with
  | lintin j => cases j <;> simpa [sampledCell, captureCell, LocalUnit.pinAt] using sampled
  | _ => simp_all [sampledCell, captureCell, unitCells]

end

/-! ### A scan of all cells (R238, R239) -/

/-- Cell 137 reaches `tdo` first. -/
theorem getD_reverse_bitsOf (w : ScanPath) {i : Nat} (h : i < 137) :
    (bitsOf w 137).reverse.getD (136 - i) false = w.getLsbD i := by
  rw [List.getD_eq_getElem?_getD, List.getElem?_reverse (by simp; omega), length_bitsOf, show 137 - 1 - (136 - i) = i by omega]
  simp [bitsOf, h]

section
variable {k : Package} {n : Nat} {l : List Bool} {t : Tap} {sample : Bool}

theorem register_of_boundary (h : selected t.ir = .boundary sample) : t.register = (bitsOf t.bsrShift 137).reverse := by
  rw [Tap.register, h]

theorem captured_bsrShift (h : selected k.tap.ir = .boundary sample) :
    (k.captured n).bsrShift = captureScan (k.inState .captureDr) sample (Config.freeScanPath n) := by
  simp [Package.captured, captureDr, h]

theorem Scanned.register_eq_stream (h : Scanned k n l t) (boundary : selected k.tap.ir = .boundary sample)
    (all : l.length = 137) : t.scanOut = (k.captured n).register ∧ t.register = l := by
  have captured : (k.captured n).register.length = l.length := by
    rw [register_of_boundary (Package.captured_ir ▸ boundary), List.length_reverse, length_bitsOf, all]
  exact List.append_inj h.stream (h.length_scanOut.trans captured.symm)

/-- The bits of the stream stay in the latch, the last in cell 1. -/
theorem Scanned.latched (h : Scanned k n l t) (boundary : selected k.tap.ir = .boundary sample) (all : l.length = 137) {i : Nat}
    (hi : i < 137) : t.bsrLatch.getLsbD i = l.getD (136 - i) false := by
  obtain ⟨-, register⟩ := h.register_eq_stream boundary all
  rw [h.latch _ boundary, ← register, register_of_boundary (h.ir ▸ boundary), getD_reverse_bitsOf _ hi]

/-- The bits on `tdo` are the captured cells. -/
theorem Scanned.shown (h : Scanned k n l t) (boundary : selected k.tap.ir = .boundary sample) (all : l.length = 137) {i : Nat}
    {x : Cell} (cell : scanCells[i]? = some x) : t.scanOut.getD (136 - i) false =
      captureCell (k.inState .captureDr) sample ((Config.freeScanPath n).getLsbD i) i x := by
  obtain ⟨scanOut, -⟩ := h.register_eq_stream boundary all
  rw [scanOut, register_of_boundary (Package.captured_ir ▸ boundary), getD_reverse_bitsOf _ (cell_lt cell),
    captured_bsrShift boundary, getLsbD_captureScan cell]

end

/-- Settles O52: a stream of 137 bits pushes out the captured cells and stays in the latch, which this instruction cuts off. -/
theorem samplePreloadScan : Obligations.SamplePreloadScan := by
  intro s p k l present state all
  have nonempty : l ≠ [] := List.ne_nil_of_length_pos (by omega)
  have other : 0b0001#4 ≠ extestOpcode := by decide
  obtain ⟨t, scan, scanned⟩ := exec_row_of_not_extest (op := 0b0001#4) present state (by decide) other nonempty
  have boundary : selected (k.loaded 0b0001#4 (capturedIr s.fresh)).tap.ir = .boundary true := rfl
  have ir : (k.withTap t).tap.ir ≠ extestOpcode := by rw [Package.withTap_tap, scanned.ir]; exact other
  obtain ⟨pint, pnmi, prst, extInta⟩ := pins_of_not_extest ir
  refine ⟨by decide +kernel, _, _, scan, putPackage_get_same present _, fun i hi => scanned.latched boundary all hi,
    scanned.length_scanOut.trans all, fun i c b cell sampled => ?cells, pint, pnmi, prst, extInta, fun before => ?same, rfl⟩
  case cells =>
    exact (scanned.shown boundary all cell).trans
      (captureCell_of_sampled sampled (scanOutput_of_not_extest other c.signal) (.inl rfl))
  case same =>
    obtain ⟨pint', pnmi', prst', extInta'⟩ := pins_of_not_extest before
    exact ⟨pint.trans pint'.symm, pnmi.trans pnmi'.symm, prst.trans prst'.symm, extInta.trans extInta'.symm⟩

/-- An input cell, or a bi-directional one that its control cell does not make an output (R252). -/
def IsInput (latch : ScanPath) (i : Nat) (c : Cell) : Prop :=
  c.type = .i ∨ (c.type = .b ∧ ∃ x ∈ outputCells, x.1 = i + 1 ∧ latch.getLsbD (x.2 - 1) ≠ Config.controlEnables)

theorem notOutput_of_input {t : Tap} {i : Nat} {c : Cell} (cell : scanCells[i]? = some c) (input : IsInput t.bsrLatch i c) :
    scanOutput t c.signal = false := by
  rcases input with type | ⟨-, x, mem, place, disabled⟩
  · exact scanOutput_of_no_control (inputCells_spec c (List.mem_of_getElem? cell) type)
  · obtain ⟨c', cell', control, -, -⟩ := outputCells_spec x mem
    rw [place, Nat.add_sub_cancel, cell, Option.some.injEq] at cell'
    exact scanOutput_of_disabled (cell' ▸ control) disabled

theorem notUnit_of_input {i : Nat} {c : Cell} (cell : scanCells[i]? = some c) (type : c.type = .i ∨ c.type = .b) :
    ∀ y ∈ unitCells, c.signal ≠ y.1 :=
  unitCells_spec c (List.mem_of_getElem? cell) (by rcases type with h | h <;> simp [h])

/-- R24: under extest the processor of `k` may start at the load of the opcode, and again when the scanned bits reach the pins. -/
theorem extest_withTap (k : Package) (t : Tap) (out : List Bool) :
    (k.loaded 0b0000#4 out).withTap t =
      { k with
        tap := t
        needsReset := true
        cpu := cpuAfter (k.withTap { k.tap with ir := 0b0000#4 }) ((k.loaded 0b0000#4 out).withTap t) } := by
  have load : (k.loaded 0b0000#4 out).cpu = (k.withTap { k.tap with ir := 0b0000#4 }).cpu :=
    cpuAfter_congr rfl rfl (cpuReset_congr rfl rfl rfl)
  have scan : cpuAfter (k.loaded 0b0000#4 out) ((k.loaded 0b0000#4 out).setTap t) =
      cpuAfter (k.withTap { k.tap with ir := 0b0000#4 }) ((k.loaded 0b0000#4 out).withTap t) :=
    cpuAfter_congr load (cpuReset_congr rfl rfl rfl) (cpuReset_congr rfl rfl rfl)
  exact congrArg₂ (fun c b => { k with tap := t, cpu := c, needsReset := b }) scan (Bool.or_true k.needsReset)

/-- Settles O53: the same for extest, under which the latched cells drive the pins before the scan and after it. -/
theorem extestScan : Obligations.ExtestScan := by
  intro s p k l present state all
  have nonempty : l ≠ [] := List.ne_nil_of_length_pos (by omega)
  obtain ⟨t, scan, scanned⟩ := exec_row (op := 0b0000#4) present state (by decide) nonempty
  have boundary : selected (k.loaded 0b0000#4 (capturedIr s.fresh)).tap.ir = .boundary false := rfl
  refine ⟨_, _, _, scan, putPackage_get_same present _, scanned.state, scanned.ir, fun i hi => scanned.latched boundary all hi,
    scanned.length_scanOut.trans all, fun i c b cell sampled input => ?cells, rfl, ?frame⟩
  case cells =>
    exact (scanned.shown boundary all cell).trans (captureCell_of_sampled sampled (notOutput_of_input cell input)
      (.inr (notUnit_of_input cell (input.imp_right And.left))))
  case frame => exact congrArg (fun k' => { s.putPackage p k' with fresh := s.fresh + 1 + 1 }) (extest_withTap k t _)

end Sys2Proof.Machine
end

section
/-!
PROOFS. The floppy controller: the perpendicular mode command, its resets (R281, R283, R292, R293) and the configuration of a
transfer (R284 to R289).
-/

namespace Sys2Proof.Machine

/-! ### A byte at the FIFO, by the phase of the controller (R281) -/

section
variable {s : State} {b : Byte}

/-- The second byte of the perpendicular mode command. -/
theorem fifoWrite_of_parameter (phase : s.fdc.phase = .parameter) :
    fifoWrite b s = .next { s with fdc := { s.fdc with pr := perpendicular b s.fdc.pr, phase := .command } } := by
  simp only [fifoWrite, phase]

/-- The first byte of the perpendicular mode command. -/
theorem fifoWrite_perpendicularCode (phase : s.fdc.phase = .command) :
    fifoWrite perpendicularCode s = .next { s with fdc := { s.fdc with phase := .parameter } } := by
  simp only [fifoWrite, phase, if_true]

/-- A byte of a command that is not in the sources (N51). -/
theorem fifoWrite_of_otherCommand (h : s.fdc.phase = .command ∧ b ≠ perpendicularCode ∨ s.fdc.phase = .other) :
    fifoWrite b s = .next (otherCommandByte s) := by
  rcases h with ⟨phase, code⟩ | phase
  · simp only [fifoWrite, phase, if_neg code]
  · simp only [fifoWrite, phase]

/-- R281: a byte that is not the second of the perpendicular mode command stores nothing, and only 0x12, where a command is waited
for, makes the next byte that one. -/
theorem fifoWrite_stores_nothing (b : Byte) (phase : s.fdc.phase ≠ .parameter) :
    ∃ (ph : FdcPhase) (n : Nat), fifoWrite b s = .next { s with fdc := { s.fdc with phase := ph }, fresh := n } ∧
      (ph = .parameter ↔ s.fdc.phase = .command ∧ b = perpendicularCode) := by
  rcases fifoWrite_cases b s with ⟨waits, code, write⟩ | ⟨waits, -⟩ | ⟨other, write⟩
  · exact ⟨_, _, write, iff_of_true rfl ⟨waits, code⟩⟩
  · exact absurd waits phase
  · refine ⟨_, _, write, iff_of_false (otherCommandByte_phase s) ?_⟩
    rintro ⟨waits, code⟩
    rcases other with ⟨-, differs⟩ | inside
    · exact differs code
    · simp [waits] at inside

/-! ### The perpendicular mode command and the DUMPREG byte (R283, R292) -/

theorem exec_fdcPerpendicularMode (b : Byte) (s : State) :
    exec (.fdcPerpendicularMode b) s = andThen (fifoWrite perpendicularCode s) (fifoWrite b) := rfl

theorem exec_fdcDumpregResult8 (s : State) : exec .fdcDumpregResult8 s = .next (readDumpreg s) := rfl

/-- The code 0x12, taken as a second byte, sets GAP, clears WGATE and keeps the drive bits: its bit 7, OW, is clear. -/
theorem perpendicular_perpendicularCode (pr : PerpBits) :
    perpendicular perpendicularCode pr = { pr with gap := true, wgate := false } := rfl

theorem perpendicularMode_of_command (phase : s.fdc.phase = .command) :
    exec (.fdcPerpendicularMode b) s = .next { s with fdc := { s.fdc with pr := perpendicular b s.fdc.pr } } := by
  rw [exec_fdcPerpendicularMode, fifoWrite_perpendicularCode phase, andThen_next, fifoWrite_of_parameter rfl, ← phase]

/-- Given to a controller that waits for a second byte, the code is that byte, and the byte after it the next first one. -/
theorem perpendicularMode_of_parameter (b : Byte) (phase : s.fdc.phase = .parameter) :
    ∃ (ph : FdcPhase) (n : Nat), exec (.fdcPerpendicularMode b) s = .next { s with
        fdc := { s.fdc with pr := { s.fdc.pr with gap := true, wgate := false }, phase := ph }
        fresh := n } ∧
      (ph = .parameter ↔ b = perpendicularCode) := by
  rw [exec_fdcPerpendicularMode, fifoWrite_of_parameter phase, andThen_next, perpendicular_perpendicularCode]
  obtain ⟨ph, n, write, second⟩ := fifoWrite_stores_nothing b
    (s := { s with fdc := { s.fdc with pr := { s.fdc.pr with gap := true, wgate := false }, phase := .command } }) (by simp)
  exact ⟨ph, n, write, second.trans (and_iff_right rfl)⟩

/-- Given to a controller inside another command, neither byte stores. -/
theorem perpendicularMode_of_other (b : Byte) (phase : s.fdc.phase = .other) :
    ∃ (ph : FdcPhase) (n : Nat),
      exec (.fdcPerpendicularMode b) s = .next { s with fdc := { s.fdc with phase := ph }, fresh := n } := by
  rw [exec_fdcPerpendicularMode, fifoWrite_of_otherCommand (.inr phase), andThen_next]
  obtain ⟨ph, n, write, -⟩ := fifoWrite_stores_nothing b (otherCommandByte_phase s)
  exact ⟨ph, n, write⟩

end

/-- R292: bits 5 to 0 of the byte are the stored bits, whatever the two free bits above them are (U17). -/
theorem bitsOf_dumpregByte (hi : BitVec 2) (pr : PerpBits) :
    bitsOf (dumpregByte hi pr) 6 = [pr.wgate, pr.gap, pr.d0, pr.d1, pr.d2, pr.d3] := by
  simp only [bitsOf, dumpregByte, List.range_succ, BitVec.getLsbD_append]
  simp

/-- Settles O57: a byte at the FIFO by the phase, two of them in a row for the command, and the two resets. -/
theorem perpendicularCommand : Obligations.PerpendicularCommand := by
  intro s b r
  refine ⟨perpendicular b s.fdc.pr, rfl, perpendicularMode_of_command, fun phase => ?second, fun phase => ?inside,
    ⟨_, exec_fdcDumpregResult8 _, bitsOf_dumpregByte _ _⟩, fun phase code => ?first, fun other => ?otherByte,
    fun phase => ?stores, rfl, rfl⟩
  case second =>
    obtain ⟨ph, n, run, waits⟩ := perpendicularMode_of_parameter b phase
    exact ⟨_, run, rfl, waits⟩
  case inside =>
    obtain ⟨ph, n, run⟩ := perpendicularMode_of_other b phase
    exact ⟨_, run, rfl⟩
  case first =>
    subst code
    exact (onEvent_eq ..).trans (fifoWrite_perpendicularCode (s := { s with input := r }) phase)
  case otherByte =>
    exact ⟨_, otherCommandByte_phase { s with input := r },
      (onEvent_eq ..).trans (fifoWrite_of_otherCommand (s := { s with input := r }) other)⟩
  case stores =>
    exact (onEvent_eq ..).trans (fifoWrite_of_parameter (s := { s with input := r }) phase)

/-! ### The numbers of a row (R285) -/

section
variable (row : ModeRow) (forced : Bool) (ns : Nat)

@[simp] theorem rowConfig_precompForcedOff : (rowConfig row forced ns).precompForcedOff = forced := by cases row <;> rfl

@[simp] theorem rowConfig_precomp : (rowConfig row forced ns).precomp = ns := by cases row <;> rfl

@[simp] theorem rowConfig_vcoAfterIndex : (rowConfig row forced ns).vcoAfterIndex = 33 := by cases row <;> rfl

@[simp] theorem rowConfig_gap2Format : (rowConfig row forced ns).gap2Format = if row = .row11 then 41 else 22 := by
  cases row <;> rfl

@[simp] theorem rowConfig_vcoRead : (rowConfig row forced ns).vcoRead = if row = .row11 then 43 else 24 := by
  cases row <;> rfl

@[simp] theorem rowConfig_gap2Written :
    (rowConfig row forced ns).gap2Written = if row = .row11 then 38 else if row = .row01 then 19 else 0 := by
  cases row <;> rfl

end

/-! ### The row and the precompensation of a transfer (R284, R286) -/

/-- R286: the enhanced mode: GAP and WGATE clear, and the bit of the drive set. -/
def Enhanced (pr : PerpBits) (drive : BitVec 2) : Prop := pr.gap = false ∧ pr.wgate = false ∧ driveBit pr drive = true

/-- Which row a transfer takes, and when precompensation is forced to 0. -/
theorem configure_eq_rowConfig (pr : PerpBits) (drive : BitVec 2) (rate : DataRate) (ns : Nat) :
    ∃ (row : ModeRow) (forced : Bool), configure pr drive rate ns = rowConfig row forced (if forced then 0 else ns) ∧
      (row = .row11 ↔ (pr.gap = true ∧ pr.wgate = true) ∨ (Enhanced pr drive ∧ rate = .mbps1)) ∧
      (row = .row01 ↔ (pr.gap = false ∧ pr.wgate = true) ∨ (Enhanced pr drive ∧ rate ≠ .mbps1)) ∧
      (forced = true ↔ Enhanced pr drive) := by
  unfold configure Enhanced
  cases gap : pr.gap <;> cases wgate : pr.wgate
  case false.false =>
    cases bit : driveBit pr drive
    case false => exact ⟨.row00, false, by simp⟩
    case true =>
      by_cases fast : rate = .mbps1
      · exact ⟨.row11, true, by simp [fast]⟩
      · exact ⟨.row01, true, by simp [fast]⟩
  case false.true => exact ⟨.row01, false, by simp⟩
  case true.false => exact ⟨.row10, false, by simp⟩
  case true.true => exact ⟨.row11, false, by simp⟩

/-- Settles O58: the row of the transfer, then the numbers of that row. -/
theorem transferConfiguration : Obligations.TransferConfiguration := by
  intro s t d r
  obtain ⟨row, forced, config, eleven, one, off⟩ := configure_eq_rowConfig s.fdc.pr d s.fdc.rate s.fdc.precomp
  refine ⟨configure s.fdc.pr d s.fdc.rate s.fdc.precomp, rfl, ?_⟩
  simp only [Enhanced] at eleven one off
  simp only [config, ← eleven, ← one]
  simp only [← off]
  cases row <;> simp

end Sys2Proof.Machine
end

section
/-!
PROOFS. Taking an interrupt (R320 to R322): what the two cycles of an acknowledge do to a local unit, the cycles at the bus, and the
two together, with nothing in the write buffer or overtaking what is there (R87).
-/

namespace Sys2Proof.Machine

/-! ### The first cycle at a local unit -/

section
variable {u : LocalUnit}

theorem acknowledgeFirst_intaPhase (u : LocalUnit) : (acknowledgeFirst u).intaPhase = .afterFirst := by
  unfold acknowledgeFirst
  cases u.commit <;> cases dispensable u <;> rfl

/-- R321: an external request leaves the vector to the 8259A. -/
theorem acknowledgeFirst_of_external (request : u.commit = .external) :
    acknowledgeFirst u = { u with intaPhase := .afterFirst } := by
  simp only [acknowledgeFirst, request]

/-- R320: the vector that may be dispensed is the chosen one. -/
theorem acknowledgeFirst_of_mayDispense (request : u.commit = .internal) {v : Byte} (may : MayDispense u v) :
    acknowledgeFirst u =
      { u with irrFrozen := true, intaVector := v, intaGenuine := true, intaPhase := .afterFirst } := by
  simp only [acknowledgeFirst, request, dispensable_eq_some.2 may]

/-- R322: with no vector that may be dispensed the spurious one is chosen. -/
theorem acknowledgeFirst_of_not_mayDispense (request : u.commit = .internal) (nothing : ¬∃ v, MayDispense u v) :
    acknowledgeFirst u =
      { u with
        irrFrozen := true, intaVector := u.svr.extractLsb' 0 8, intaGenuine := false, intaPhase := .afterFirst } := by
  simp only [acknowledgeFirst, request, dispensable_eq_none.2 nothing]
  rfl

/-! ### The second cycle at a local unit -/

theorem acknowledgedVector_of_external (request : u.commit = .external) (ext : Byte) : acknowledgedVector u ext = ext := by
  simp only [acknowledgedVector, request]

theorem acknowledgedVector_of_internal (request : u.commit = .internal) (ext : Byte) :
    acknowledgedVector u ext = u.intaVector := by
  simp only [acknowledgedVector, request]

theorem acknowledgeSecond_of_external (request : u.commit = .external) :
    acknowledgeSecond u = endAcknowledge { u with extIntPending := false, extInta := false } := by
  simp only [acknowledgeSecond, request]

theorem acknowledgeSecond_of_genuine (request : u.commit = .internal) (genuine : u.intaGenuine = true) :
    acknowledgeSecond u = endAcknowledge (serveVector u.intaVector u) := by
  simp only [acknowledgeSecond, request, if_pos genuine]

theorem acknowledgeSecond_of_spurious (request : u.commit = .internal) (spurious : u.intaGenuine = false) :
    acknowledgeSecond u = endAcknowledge u := by
  simp only [acknowledgeSecond, request, spurious]
  rfl

end

/-! ### A vector goes into service (R143) -/

theorem hasVector_serveVector_isr (v x : Byte) (u : LocalUnit) :
    hasVector (serveVector v u).isr x = (decide (x = v) || hasVector u.isr x) := by
  rw [serveVector, hasVector_setBit]
  by_cases same : x = v <;> simp [same]

/-- Only a vector accepted as an edge leaves the IRR. -/
theorem hasVector_serveVector_irr (v x : Byte) (u : LocalUnit) :
    hasVector (serveVector v u).irr x = ((decide (x ≠ v) || hasVector u.tmr v) && hasVector u.irr x) := by
  rw [serveVector]
  cases tmr : hasVector u.tmr v
  case true => simp
  case false =>
    simp only [Bool.false_eq_true, if_false, hasVector_setBit]
    by_cases same : x = v <;> simp [same]

/-! ### The two cycles at the bus -/

/-- Processor `p`, of package `k`, may acknowledge (R317), and its write buffer is not flushed before it does (R87). -/
structure AcknowledgeReady (s : State) (p : Nat) (k : Package) : Prop extends BusReady s p k where
  noFlush : k.cpu.wbuf = [] ∨ Config.intaFlushesWbuf = false
  request : cpuInt k = true
  unmasked : k.cpu.intrEnabled = true

/-- Package `k` between the two cycles; `n` numbers the free value that the first has returned (U18). -/
def Package.afterIntaFirst (k : Package) (n : Nat) : Package :=
  { k with
    cpu := { k.cpu with data := Config.freeAcknowledgeData n }
    lu := acknowledgeFirst k.lu }

/-- Package `k` after the second cycle has returned the vector `v` and left its local unit at `u`. -/
def Package.afterIntaSecond (k : Package) (v : Byte) (u : LocalUnit) : Package :=
  { k with
    cpu := { k.cpu with data := v.setWidth 32, vector := some v }
    lu := u }

section
variable {s : State} {p : Nat} {k : Package}

theorem firstCycle_of (ready : BusReady s p k) :
    firstCycle p s = .next { s.putPackage p (k.afterIntaFirst s.fresh) with fresh := s.fresh + 1 } := by
  have present : ({ s with fresh := s.fresh + 1 } : State).packages[p]? = some k := ready.present
  rw [firstCycle, functional_of _ ready.present ready.usable, if_neg (by simp [ready.released]), returnData,
    modifyCpu_of present, modifyLocal_of (putPackage_get_same present _), State.putLocal, putPackage_put]
  rfl

theorem AcknowledgeReady.intaFirst (ready : AcknowledgeReady s p k) : intaFirst p s = firstCycle p s := by
  have keeps : ¬(k.cpu.wbuf ≠ [] ∧ Config.intaFlushesWbuf = true) := by
    rcases ready.noFlush with empty | overtakes
    · simp [empty]
    · simp [overtakes]
  rw [Machine.intaFirst, withProcessor_of _ ready.present ready.wired,
    if_pos (mayAcknowledge_of ready.request ready.unmasked ready.running), if_neg keeps]
  rfl

theorem intaSecond_of (present : s.packages[p]? = some k) (wired : k.hasCpu = true) (usable : k.needsReset = false)
    (phase : k.lu.intaPhase = .afterFirst) (ext : Byte) :
    intaSecond p ext s =
      .next (s.putPackage p (k.afterIntaSecond (acknowledgedVector k.lu ext) (acknowledgeSecond k.lu))) := by
  rw [intaSecond, withProcessor_of _ present wired, if_pos phase, functional_of _ present usable, returnVector,
    modifyCpu_of present, modifyLocal_of (putPackage_get_same present _), State.putLocal, putPackage_put]
  rfl

theorem step_event {e : Event} {r : List Input} (h : s.input = .event e :: r) :
    step s = runEvent e { s with input := r } := by
  simp only [step, consumeInput, h, List.tail_cons]

/-- The two cycles, one after the other: the local unit goes through both of its steps, and the vector it gives after the first of
them is returned. -/
theorem AcknowledgeReady.cycles (ready : AcknowledgeReady s p k) (ext : Byte) (r : List Input) :
    ∃ t, onEvent s (.intaFirst p) (.event (.intaSecond p ext) :: r) = .next t ∧
      t = { s.putPackage p (k.afterIntaFirst s.fresh) with
        fresh := s.fresh + 1, input := .event (.intaSecond p ext) :: r } ∧
      step t = .next { s.putPackage p (k.afterIntaSecond (acknowledgedVector (acknowledgeFirst k.lu) ext)
          (acknowledgeSecond (acknowledgeFirst k.lu))) with
        fresh := s.fresh + 1, input := r } := by
  refine ⟨_, ?first, rfl, (step_event rfl).trans ?second⟩
  case first =>
    have ready' : AcknowledgeReady { s with input := .event (.intaSecond p ext) :: r } p k := { ready with }
    exact ready'.intaFirst.trans (firstCycle_of ready'.toBusReady)
  case second =>
    have present := putPackage_get_same ready.present (k.afterIntaFirst s.fresh)
    refine (intaSecond_of (s := { s.putPackage p (k.afterIntaFirst s.fresh) with fresh := s.fresh + 1, input := r })
      present ready.wired ready.usable (acknowledgeFirst_intaPhase k.lu) ext).trans ?_
    simp only [State.putPackage, List.set_set]
    rfl

end

/-- Settles O19: both cycles with the vector that may be dispensed, which goes into service, and with the spurious one. -/
theorem internalAcknowledge : Obligations.InternalAcknowledge := by
  intro s p k ext r ready noFlush asks unmasked request
  obtain ⟨t, first, between, second⟩ := AcknowledgeReady.cycles ⟨ready, noFlush, asks, unmasked⟩ ext r
  have request' : (acknowledgeFirst k.lu).commit = .internal := (acknowledgeFirst_commit k.lu).trans request
  rw [acknowledgedVector_of_internal request'] at second
  refine ⟨fun v may => ?genuine, fun nothing => ?spurious⟩
  case genuine =>
    have chosen := acknowledgeFirst_of_mayDispense request may
    rw [acknowledgeSecond_of_genuine request' (by rw [chosen]), chosen] at second
    rw [Package.afterIntaFirst, chosen] at between
    exact ⟨t, (serveVector v k.lu).isr, (serveVector v k.lu).irr, first, between, second,
      fun x => hasVector_serveVector_isr v x k.lu, fun x => hasVector_serveVector_irr v x k.lu⟩
  case spurious =>
    have chosen := acknowledgeFirst_of_not_mayDispense request nothing
    rw [acknowledgeSecond_of_spurious request' (by rw [chosen]), chosen] at second
    exact ⟨t, first, second⟩

/-- Settles O20: the second cycle returns the answer of the 8259A and withdraws the external request. -/
theorem externalAcknowledge : Obligations.ExternalAcknowledge := by
  intro s p k ext r ready noFlush asks unmasked request
  obtain ⟨t, first, -, second⟩ := AcknowledgeReady.cycles ⟨ready, noFlush, asks, unmasked⟩ ext r
  have request' : (acknowledgeFirst k.lu).commit = .external := (acknowledgeFirst_commit k.lu).trans request
  rw [acknowledgedVector_of_external request', acknowledgeSecond_of_external request',
    acknowledgeFirst_of_external request] at second
  exact ⟨t, first, second⟩

end Sys2Proof.Machine
end

section
/-!
PROOFS. The hardware reset of a package, its release and the latch of the unit ID (R360, R362, R366): what each event makes of its
package, and when the processor starts (R24, R245).
-/

namespace Sys2Proof.Machine

/-! ### The hardware reset (R360) -/

/-- `k` while RESET is sampled asserted (R360, R362, R365, R368). -/
def Package.hardwareReset (k : Package) : Package :=
  { k with
    lu := hardwareResetLocal k.addrPins k.lu
    iou := clearedIo k.iou
    resetPin := true
    needsReset := scanDriven k.tap }

/-- The message comes from another package than `p`. -/
def notFrom (p : Nat) (src : Source) : Bool :=
  match src with
  | .local q => q != p
  | .io n _ => n != p

section
variable {s : State} {p : Nat} {k : Package}

theorem resetAssert_of (present : s.packages[p]? = some k) :
    resetAssert p s = .next (keepMessages (s.putPackage p k.hardwareReset) (notFrom p)) := by
  rw [resetAssert, withPackage_of _ present, modifyPackage_of present]
  rfl

end

/-- Settles O43: the reset state of a unit, written out, is that of the statement. -/
theorem hardwareReset : Obligations.HardwareReset := fun s _ _ r present =>
  resetAssert_of (s := { s with input := r }) present

/-! ### The fall of RESET (R366), and the pin that the processor sees (R24, R245) -/

/-- `k` once RESET has fallen and its unit has dropped PRST and ExtINTA; its processor as it was. -/
def Package.unitReleased (k : Package) : Package := { k with lu := releasedLocal k.lu, resetPin := false }

section
variable {k k' : Package}

/-- R245: under extest the RESET input of the processor follows the latched cells, and not the unit. -/
theorem cpuReset_of_extest (extest : k.tap.ir = extestOpcode) (tap : k'.tap = k.tap) : cpuReset k' = cpuReset k := by
  have driven : scanDriven k.tap = true := by simpa [scanDriven] using extest
  simp only [cpuReset, pinPrst, tap, driven, if_true]

/-- R366: PRST is the RESET input of the processor unless the scan path drives the pin. -/
theorem cpuAfter_unitReleased (prst : k.lu.prst = true) :
    cpuAfter k k.unitReleased = if k.tap.ir = extestOpcode then k.cpu else restarted := by
  by_cases extest : k.tap.ir = extestOpcode
  case pos => rw [cpuAfter_of_eq (cpuReset_of_extest (k' := k.unitReleased) extest rfl), if_pos extest]
  case neg =>
    have high : cpuReset k = true := (cpuReset_of_not_extest extest).trans prst
    have low : cpuReset k.unitReleased = false := cpuReset_of_not_extest (k := k.unitReleased) extest
    rw [cpuAfter, high, low, if_neg extest]
    rfl

end

section
variable {s : State} {p : Nat} {k : Package}

theorem resetRelease_of (present : s.packages[p]? = some k) (pin : k.resetPin = true) :
    resetRelease p s = .next (s.putPackage p { k.unitReleased with cpu := cpuAfter k k.unitReleased }) := by
  rw [resetRelease, withPackage_of _ present, if_pos pin, modifyPackage_of present, startedOnFall_eq]
  rfl

/-- R362: while RESET is asserted the unit ID follows the address pins. -/
theorem addressPins_of_held (present : s.packages[p]? = some k) (pin : k.resetPin = true) (v : Byte) :
    addressPins p v s = .next (s.putPackage p { k with addrPins := v, lu := { k.lu with id := idWord v } }) := by
  rw [addressPins, withPackage_of _ present, modifyPackage_of present, if_pos pin]

end

/-- Settles O44: the release by whether extest is current; the latch at every sample. -/
theorem releaseAndIdLatch : Obligations.ReleaseAndIdLatch := by
  intro s p k v r present pin prst
  refine ⟨?release, addressPins_of_held (s := { s with input := r }) present pin v⟩
  case release =>
    have released := resetRelease_of (s := { s with input := r }) present pin
    rw [cpuAfter_unitReleased prst] at released
    exact released

end Sys2Proof.Machine
end

section
/-!
PROOFS. A package that must be reset (R368, U16): every access that reaches one of its units, every acknowledge of its processor and
every message it has waiting is refused. An extest row leaves its package so (R252).
-/

namespace Sys2Proof.Machine

/-! ### Accesses that reach a unit of such a package -/

section
variable {s : State} {p q n : Nat} {k kq : Package} {l : Location} {a : Access}

/-- With nothing buffered an access that is not posted is its effect on the unit. -/
theorem registerAccess_now (reach : ReachesPage s q kq l) (empty : kq.cpu.wbuf = []) (now : ∀ v, a ≠ .write v true)
    (sel : BitVec 6) (rd : State → Res) (wr : Word → State → Res) : registerAccess q l sel a rd wr s = effectOf a rd wr s := by
  rw [registerAccess_drains reach now, drainAll_empty reach.present empty, andThen_next]

theorem localRow_refused (reach : ReachesPage s p k s.platform.lu) (empty : k.cpu.wbuf = []) (due : k.needsReset = true)
    (now : ∀ v, a ≠ .write v true) (sel : BitVec 6) : exec (localInstr sel p a) s = .refused .needsHardwareReset := by
  rw [exec_localInstr, localAccess, registerAccess_now reach empty now]
  cases a with
  | read => exact functional_refused _ reach.present due
  | write v posted => exact localWrite_refused reach.present due sel v

theorem commandRow_refused (reach : ReachesPage s p k s.platform.lu) (empty : k.cpu.wbuf = []) (due : k.needsReset = true)
    {c : Nat → CommandFields → Instr} (hc : c ∈ commandRows) (f : CommandFields) :
    exec (c p f) s = .refused .needsHardwareReset := by
  obtain ⟨w, row⟩ := exec_commandRow hc p f
  rw [row, commandAccess, localAccess_write reach empty]
  exact functional_refused _ reach.present due

/-- Every write of a direct register of an I/O unit is a functional step of its package. -/
theorem ioWrite_refused (present : s.packages[n]? = some k) (due : k.needsReset = true) (sel : BitVec 6) (v : Word) :
    ioWrite n sel v s = .refused .needsHardwareReset := by
  unfold ioWrite
  split <;> exact functional_refused _ present due

theorem ioAccess_refused (reach : IoBusReady s q n kq) (empty : kq.cpu.wbuf = []) (hn : n < s.platform.ious.length)
    (present : s.packages[n]? = some k) (due : k.needsReset = true) (now : ∀ v, a ≠ .write v true) (sel : BitVec 6) :
    ioAccess q n sel a s = .refused .needsHardwareReset := by
  rw [ioAccess_of hn, registerAccess_now reach empty now]
  cases a with
  | read => exact functional_refused _ present due
  | write v posted => exact ioWrite_refused present due sel v

theorem ioRow_refused (reach : IoBusReady s q n kq) (empty : kq.cpu.wbuf = []) (hn : n < s.platform.ious.length)
    (present : s.packages[n]? = some k) (due : k.needsReset = true) (now : ∀ v, a ≠ .write v true) (sel : BitVec 6) :
    exec (ioInstr sel q n a) s = .refused .needsHardwareReset :=
  (exec_ioInstr ..).trans (ioAccess_refused reach empty hn present due now sel)

/-- The select of an index is already refused. -/
theorem indexRow_refused (reach : IoBusReady s q n kq) (empty : kq.cpu.wbuf = []) (hn : n < s.platform.ious.length)
    (present : s.packages[n]? = some k) (due : k.needsReset = true) (now : ∀ v, a ≠ .write v true) (i : Byte) :
    exec (indexInstr i q n a) s = .refused .needsHardwareReset := by
  rw [exec_indexInstr, indexAccess_of_now now, ioAccess_refused reach empty hn present due (a := .write (i.setWidth 32) false) nofun]
  rfl

/-! ### Its acknowledges and its messages -/

theorem intaFirst_refused (present : s.packages[p]? = some k) (wired : k.hasCpu = true) (empty : k.cpu.wbuf = [])
    (due : k.needsReset = true) (may : mayAcknowledge k = true) : intaFirst p s = .refused .needsHardwareReset := by
  rw [intaFirst, withProcessor_of _ present wired, if_pos may, if_neg (by simp [empty]), andThen_next]
  exact functional_refused _ present due

theorem intaSecond_of_due (present : s.packages[p]? = some k) (wired : k.hasCpu = true) (due : k.needsReset = true) (ext : Byte) :
    intaSecond p ext s = if k.lu.intaPhase = .afterFirst then .refused .needsHardwareReset else .next s := by
  rw [intaSecond, withProcessor_of _ present wired, functional_refused _ present due]

theorem mayAcknowledge_iff : mayAcknowledge k = true ↔ cpuHeld k = false ∧ cpuInt k = true ∧ k.cpu.intrEnabled = true := by
  simp only [mayAcknowledge, Bool.and_eq_true, Bool.not_eq_true']
  tauto

theorem senderUntrusted_of_due {m : Message} (present : s.packages[p]? = some k) (due : k.needsReset = true)
    (sender : m.source = .local p ∨ ∃ x, m.source = .io p x) : senderUntrusted m s = true := by
  have package : sourcePackage m = p := by
    obtain source | ⟨x, source⟩ := sender <;> rw [sourcePackage, source]
  rw [senderUntrusted, package, present]
  exact due

theorem arbitrate_refused {j : Nat} {m : Message} (free : s.icc.carried = none) (waits : s.icc.queue[j]? = some m)
    (untrusted : senderUntrusted m s = true) : arbitrate j s = .refused .needsHardwareReset := by
  simp only [arbitrate, free, waits, untrusted, if_true]

end

/-! ### Its processor, held or not -/

/-- Package `p`, `k`, must be reset, and nothing but a hold keeps its processor, which has nothing buffered, from its units. -/
structure DuePackage (s : State) (p : Nat) (k : Package) : Prop where
  present : s.packages[p]? = some k
  wired : k.hasCpu = true
  uncached : k.cpu.pageUncached = true
  empty : k.cpu.wbuf = []
  due : k.needsReset = true

section
variable {s : State} {p : Nat} {k : Package} {r : Res} {a : Access}

/-- The outcome of what a held processor does not issue, and one that runs issues to be refused (R24, R368). -/
theorem DuePackage.gated (h : DuePackage s p k) (held : ProcessorHeld s p k → r = .next s)
    (running : (∀ l, ReachesPage s p k l) → r = .refused .needsHardwareReset) :
    r = if cpuHeld k then .next s else .refused .needsHardwareReset := by
  cases hold : cpuHeld k with
  | true => exact held ⟨h.present, h.wired, hold⟩
  | false => exact running fun l => ⟨h.present, h.wired, hold, fun _ => h.uncached⟩

theorem DuePackage.localRow (h : DuePackage s p k) (now : ∀ v, a ≠ .write v true) (sel : BitVec 6) :
    exec (localInstr sel p a) s = if cpuHeld k then .next s else .refused .needsHardwareReset :=
  h.gated (fun held => held.localRow ..) fun reach => localRow_refused (reach _) h.empty h.due now sel

theorem DuePackage.ioRow (h : DuePackage s p k) (hn : p < s.platform.ious.length) (now : ∀ v, a ≠ .write v true)
    (sel : BitVec 6) : exec (ioInstr sel p p a) s = if cpuHeld k then .next s else .refused .needsHardwareReset :=
  h.gated (fun held => held.ioRow hn ..) fun reach => ioRow_refused (reach _) h.empty hn h.present h.due now sel

theorem DuePackage.indexRow (h : DuePackage s p k) (hn : p < s.platform.ious.length) (now : ∀ v, a ≠ .write v true)
    (i : Byte) : exec (indexInstr i p p a) s = if cpuHeld k then .next s else .refused .needsHardwareReset :=
  h.gated (fun held => held.indexRow hn ..) fun reach => indexRow_refused (reach _) h.empty hn h.present h.due now i

theorem DuePackage.commandRow (h : DuePackage s p k) {c : Nat → CommandFields → Instr} (hc : c ∈ commandRows)
    (f : CommandFields) : exec (c p f) s = if cpuHeld k then .next s else .refused .needsHardwareReset :=
  h.gated (fun held => held.commandRow hc f) fun reach => commandRow_refused (reach _) h.empty h.due hc f

theorem DuePackage.intaFirst (h : DuePackage s p k) : intaFirst p s =
    if cpuHeld k = false ∧ cpuInt k = true ∧ k.cpu.intrEnabled = true then .refused .needsHardwareReset else .next s := by
  split
  case isTrue may => exact intaFirst_refused h.present h.wired h.empty h.due (mayAcknowledge_iff.2 may)
  case isFalse mayNot =>
    exact intaFirst_of_not_may h.present h.wired (Bool.eq_false_iff.2 fun may => mayNot (mayAcknowledge_iff.1 may))

end

/-! ### After an extest row (R252, R368) -/

/-- `k'` is `k` after an extest row: marked, with the units as they were, and its processor as it was or started. -/
structure AfterExtest (k k' : Package) : Prop where
  due : k'.needsReset = true
  wired : k'.hasCpu = k.hasCpu
  lu : k'.lu = k.lu
  cpu : k'.cpu = k.cpu ∨ k'.cpu = restarted

section
variable {s : State} {p q : Nat} {k k' kq : Package} {n : Nat} {r : List Input} {a : Access}

theorem cpuAfter_cases (k k' : Package) : cpuAfter k k' = k.cpu ∨ cpuAfter k k' = restarted := by
  unfold cpuAfter
  split
  · exact .inr rfl
  · exact .inl rfl

theorem afterExtest_loaded (k : Package) (out : List Bool) : AfterExtest k (k.loaded 0b0000#4 out) where
  due := Bool.or_true k.needsReset
  wired := rfl
  lu := rfl
  cpu := cpuAfter_cases (k.marked true) _

/-- The data scan may start the processor once more. -/
theorem AfterExtest.withTap (h : AfterExtest k k') (t : Tap) : AfterExtest k (k'.withTap t) where
  due := h.due
  wired := h.wired
  lu := h.lu
  cpu := (cpuAfter_cases k' _).elim (fun same => h.cpu.imp same.trans same.trans) .inr

theorem exec_jtagExtest_of (present : s.packages[p]? = some k)
    (state : k.tap.state ∈ [.testLogicReset, .runTestIdle, .selectIr]) (l : List Bool) :
    ∃ k' n, exec (.jtagExtest p l) s = .next { s.putPackage p k' with fresh := n } ∧ AfterExtest k k' := by
  by_cases nothing : l = []
  case pos =>
    refine ⟨_, s.fresh + 1, ?_, afterExtest_loaded k (capturedIr s.fresh)⟩
    exact (loadAndScan_direct present state rfl l).trans (by rw [if_pos nothing]; rfl)
  case neg =>
    obtain ⟨t, scan, -⟩ := exec_row (op := 0b0000#4) present state (by decide) nothing
    exact ⟨_, _, scan, (afterExtest_loaded k _).withTap t⟩

/-- A processor that started has its page uncached and an empty write buffer. -/
theorem AfterExtest.duePackage (h : AfterExtest k k') (present : s.packages[p]? = some k') (wired : k.hasCpu = true)
    (mapped : k.cpu.pageUncached = true) (buffer : k.cpu.wbuf = []) : DuePackage s p k' := by
  have cpu : k'.cpu.pageUncached = true ∧ k'.cpu.wbuf = [] := by
    obtain same | started := h.cpu
    · rw [same]; exact ⟨mapped, buffer⟩
    · rw [started]; exact ⟨rfl, rfl⟩
  exact ⟨present, h.wired.trans wired, cpu.1, cpu.2, h.due⟩

end

/-- Settles O55: the row marks the package, and a marked package refuses what reaches it, unless its processor is held. -/
theorem extestNeedsReset : Obligations.ExtestNeedsReset := by
  intro s p k l sel i a present state now
  obtain ⟨k', n, row, after⟩ := exec_jtagExtest_of present state l
  have present' : ({ s.putPackage p k' with fresh := n } : State).packages[p]? = some k' := putPackage_get_same present k'
  refine ⟨_, k', row, present', fun wired mapped buffer => ?own, fun q kq other hn reach buffer => ?others,
    fun j m r free waits sender => ?messages⟩
  case own =>
    have due : DuePackage _ p k' := after.duePackage present' wired mapped buffer
    refine ⟨due.localRow now sel, fun hn => ⟨due.ioRow hn now sel, due.indexRow hn now i⟩,
      fun f c hc => due.commandRow hc f, fun ext r => ?acknowledge⟩
    case acknowledge =>
      have due' : DuePackage { s.putPackage p k' with fresh := n, input := r } p k' := { due with }
      rw [← after.lu]
      exact ⟨due'.intaFirst, intaSecond_of_due due'.present due'.wired due'.due ext⟩
  case others =>
    have reach' : IoBusReady { s.putPackage p k' with fresh := n } q p kq :=
      { reach with present := (putPackage_get present k' q).trans ((if_neg (Ne.symm other)).trans reach.present) }
    exact ⟨ioRow_refused reach' buffer hn present' after.due now sel, indexRow_refused reach' buffer hn present' after.due now i⟩
  case messages =>
    exact arbitrate_refused (s := { s.putPackage p k' with fresh := n, input := r }) free waits
      (senderUntrusted_of_due present' after.due sender)

end Sys2Proof.Machine
end

section
/-!
PROOFS. The mark that a package must be reset (R368): every step but a hardware reset of that package keeps it. Register writes,
commands and inputs change the units only (`State.UnitStep`), a processor and memory hold no mark, and a TAP only sets it.
-/

namespace Sys2Proof.Machine

/-! ### What the decoder reads -/

/-- The rows, each as that of a code: a selector, an index, a delivery mode, a JTAG opcode, or one of the floppy controller's two. -/
inductive DecodedRow : Instr → Prop where
  | localRow (sel : BitVec 6) (p : Nat) (a : Access) : DecodedRow (localInstr sel p a)
  | ioRow (sel : BitVec 6) (p n : Nat) (a : Access) : DecodedRow (ioInstr sel p n a)
  | indexRow (i : Byte) (p n : Nat) (a : Access) : DecodedRow (indexInstr i p n a)
  | commandRow (mode : BitVec 3) (p : Nat) (f : CommandFields) : DecodedRow (commandInstr mode p f)
  | jtagRow (op : BitVec 4) (p : Nat) (tdi : List Bool) : DecodedRow (jtagInstr op p tdi)
  | perpendicularMode (b : Byte) : DecodedRow (.fdcPerpendicularMode b)
  | dumpreg : DecodedRow .fdcDumpregResult8

theorem decodedRow_of_decodeBus {pf : Platform} {sp : Space} {c : Cycle} {i : Instr} (h : decodeBus pf sp c = .ok i) :
    DecodedRow i := by
  unfold decodeBus at h
  split at h
  · cases h
  · split_ifs at h
    cases h
    exact .localRow ..
  · split_ifs at h
    cases h
    exact .ioRow ..

/-- Port by port. -/
theorem decodedRow_of_decode {pf : Platform} {c : Cycle} {i : Instr} (h : decode pf c = .ok i) : DecodedRow i := by
  cases port : c.port <;> simp only [decode, port] at h
  case bus => exact decodedRow_of_decodeBus h
  case ioSpace => exact decodedRow_of_decodeBus h
  case window =>
    split_ifs at h
    cases h
    exact .indexRow ..
  case command =>
    split_ifs at h
    cases h
    exact .commandRow ..
  case tap =>
    split_ifs at h
    cases h
    exact .jtagRow ..
  case fifo =>
    split_ifs at h
    cases h
    exact .perpendicularMode _
  case result =>
    cases h
    exact .dumpreg

/-! ### The mark -/

/-- Package `p` must be reset (R368). -/
def ResetDue (p : Nat) (s : State) : Prop := ∃ k, s.packages[p]? = some k ∧ k.needsReset = true

section
variable {s t : State} {p q : Nat}

theorem ResetDue.of_same (due : ResetDue p s) (packages : t.packages = s.packages := by rfl) : ResetDue p t := by
  rw [ResetDue, packages]
  exact due

theorem State.UnitStep.resetDue (step : s.UnitStep t) (due : ResetDue p s) : ResetDue p t := by
  obtain ⟨k, present, marked⟩ := due
  obtain ⟨k', present', units⟩ := step.present present
  exact ⟨k', present', by rw [units.rest]; exact marked⟩

theorem Ensures.resetDue_of_unitStep {r : Res} (h : Ensures r s.UnitStep) (due : ResetDue p s) : Ensures r (ResetDue p) :=
  h.imp fun _ step => step.resetDue due

theorem ResetDue.modifyPackage (due : ResetDue p s) {f : Package → Package}
    (keeps : ∀ k, k.needsReset = true → (f k).needsReset = true) : ResetDue p (modifyPackage s q f) := by
  obtain ⟨k, present, marked⟩ := due
  by_cases here : q = p
  · subst here
    exact ⟨f k, by rw [modifyPackage_get_same, present]; rfl, keeps k marked⟩
  · exact ⟨k, (modifyPackage_get_other here).trans present, marked⟩

theorem ResetDue.modifyCpu (due : ResetDue p s) (f : Cpu → Cpu) : ResetDue p (modifyCpu s q f) :=
  due.modifyPackage fun _ marked => marked

theorem ResetDue.modifyLocal (due : ResetDue p s) (f : LocalUnit → LocalUnit) : ResetDue p (modifyLocal s q f) :=
  due.modifyPackage fun _ marked => marked

theorem ResetDue.returnRead (due : ResetDue p s) (v : Option Word) : ResetDue p (returnRead s q v) := by
  cases v with
  | some w => exact due.modifyCpu _
  | none => exact ResetDue.modifyCpu (s := { s with fresh := s.fresh + 1 }) due _

@[simp] theorem startedOnFall_needsReset (old k : Package) : (startedOnFall old k).needsReset = k.needsReset := by
  rw [startedOnFall_eq]

/-! ### The write buffer and the accesses of a processor -/

theorem ResetDue.drainList (due : ResetDue p s) (l : List (Word × Word)) : Ensures (drainList q l s) (ResetDue p) := by
  induction l generalizing s with
  | nil => exact ensures_next due
  | cons w r ih => exact ensures_andThen (ensures_regWrite q w.1 w.2) fun t step => ih (step.resetDue (due.modifyCpu _))

theorem ResetDue.drainAll (due : ResetDue p s) : Ensures (drainAll q s) (ResetDue p) :=
  ensures_withPackage fun k _ => due.drainList k.cpu.wbuf

theorem ResetDue.drainOne (due : ResetDue p s) : Ensures (drainOne q s) (ResetDue p) := by
  refine ensures_withProcessor fun _ _ => ensures_ite (fun _ => ensures_next due) fun _ => ?_
  split
  · exact ensures_next due
  · exact (ensures_regWrite _ _ _).resetDue_of_unitStep (due.modifyCpu _)

theorem ResetDue.registerAccess {l : Location} {sel : BitVec 6} {a : Access} {rd : State → Res} {wr : Word → State → Res}
    (due : ResetDue p s) (read : ∀ t : State, ResetDue p t → Ensures (rd t) (ResetDue p))
    (write : ∀ (v : Word) (t : State), Ensures (wr v t) t.UnitStep) : Ensures (registerAccess q l sel a rd wr s) (ResetDue p) := by
  refine ensures_withProcessor fun _ _ => ensures_ite (fun _ => ensures_next due) fun _ =>
    ensures_ite (fun _ => ensures_refused _) fun _ => ?_
  cases a with
  | read => exact ensures_andThen due.drainAll read
  | write v posted =>
    exact ensures_withPackage fun _ _ => ensures_ite (fun _ => ensures_next (due.modifyCpu _)) fun _ =>
      ensures_andThen due.drainAll fun t due' => (write v t).resetDue_of_unitStep due'

theorem ResetDue.localAccess {sel : BitVec 6} {a : Access} {rd : LocalUnit → Option Word} {wr : Nat → Word → State → Res}
    (due : ResetDue p s) (write : ∀ (v : Word) (t : State), Ensures (wr q v t) t.UnitStep) :
    Ensures (localAccess q sel a rd wr s) (ResetDue p) :=
  due.registerAccess (fun _ due' => ensures_functional fun _ _ => ensures_next (due'.returnRead _)) write

theorem ResetDue.ioAccess (due : ResetDue p s) (n : Nat) (sel : BitVec 6) (a : Access) :
    Ensures (ioAccess q n sel a s) (ResetDue p) := by
  unfold Machine.ioAccess
  split
  · exact due.registerAccess (fun _ due' => ensures_functional fun _ _ => ensures_next (due'.returnRead _))
      fun v _ => ensures_ioWrite sel v
  · exact ensures_fault _

theorem ResetDue.indexAccess (due : ResetDue p s) (n : Nat) (i : Byte) (a : Access) :
    Ensures (indexAccess q n i a s) (ResetDue p) :=
  ensures_andThen (due.ioAccess n _ _) fun _ due' => due'.ioAccess n _ _

theorem ResetDue.commandAccess (due : ResetDue p s) (w : Word) : Ensures (commandAccess q w s) (ResetDue p) :=
  due.localAccess fun v _ => ensures_writeIcrLow v

/-! ### The acknowledge, the resets and the other pins -/

theorem ResetDue.intaFirst (due : ResetDue p s) : Ensures (intaFirst q s) (ResetDue p) := by
  refine ensures_withProcessor fun _ _ => ensures_ite (fun _ => ?_) fun _ => ensures_next due
  refine ensures_andThen (P := ResetDue p) (ensures_ite (fun _ => due.drainAll) fun _ => ensures_next due) fun t due' => ?_
  refine ensures_functional fun _ _ => ensures_ite (fun _ => ensures_next due') fun _ => ensures_next ?_
  exact (ResetDue.modifyCpu (s := { t with fresh := t.fresh + 1 }) due' _).modifyLocal _

theorem ResetDue.intaSecond (due : ResetDue p s) (ext : Byte) : Ensures (intaSecond q ext s) (ResetDue p) :=
  ensures_withProcessor fun _ _ => ensures_ite
    (fun _ => ensures_functional fun _ _ => ensures_next ((due.modifyCpu _).modifyLocal _)) fun _ => ensures_next due

/-- A hardware reset of another package. -/
theorem ResetDue.resetAssert (due : ResetDue p s) (other : q ≠ p) : Ensures (resetAssert q s) (ResetDue p) := by
  obtain ⟨k, present, marked⟩ := due
  exact ensures_withPackage fun _ _ => ensures_next ⟨k, (modifyPackage_get_other other).trans present, marked⟩

theorem ResetDue.resetRelease (due : ResetDue p s) : Ensures (resetRelease q s) (ResetDue p) :=
  ensures_withPackage fun _ _ => ensures_ite
    (fun _ => ensures_next (due.modifyPackage fun k marked => (startedOnFall_needsReset k _).trans marked))
    fun _ => ensures_next due

theorem ResetDue.addressPins (due : ResetDue p s) (v : Byte) : Ensures (addressPins q v s) (ResetDue p) :=
  ensures_withPackage fun _ _ => ensures_next (due.modifyPackage fun _ marked => by split <;> exact marked)

theorem setOtherPin_needsReset (c : Fin 137) (lvl : Bool) (k : Package) : (setOtherPin c lvl k).needsReset = k.needsReset := by
  unfold setOtherPin
  split
  · split <;> rfl
  · rfl

theorem ResetDue.otherPin (due : ResetDue p s) (c : Fin 137) (lvl : Bool) :
    Ensures (withPackage s q fun _ => .next (Machine.modifyPackage s q (setOtherPin c lvl))) (ResetDue p) :=
  ensures_withPackage fun _ _ => ensures_next (due.modifyPackage fun k marked => (setOtherPin_needsReset c lvl k).trans marked)

/-! ### The processors and memory -/

/-- A change of a processor's own that it does not make while it is held. -/
theorem ResetDue.unlessHeld (due : ResetDue p s) (f : Cpu → Cpu) :
    Ensures (withProcessor s q fun k => if cpuHeld k then .next s else .next (Machine.modifyCpu s q f)) (ResetDue p) :=
  ensures_withProcessor fun _ _ => ensures_ite (fun _ => ensures_next due) fun _ => ensures_next (due.modifyCpu f)

theorem ResetDue.cpuStep (due : ResetDue p s) : Ensures (cpuStep q s) (ResetDue p) := by
  refine ensures_withProcessor fun _ _ => ensures_ite (fun _ => ensures_next due) fun _ => ensures_next ?_
  exact (ResetDue.modifyCpu (s := { s with fresh := s.fresh + 1 }) due _).of_same (issue_packages ..)

theorem ResetDue.storeSeen (due : ResetDue p s) (i : Nat) : ResetDue p (storeSeen i s) := by
  unfold Machine.storeSeen
  split
  · exact due.modifyPackage fun _ marked => marked
  · exact due

theorem ResetDue.outsideRegisters {sp : Space} {c : Cycle} {f : Package → Res} (due : ResetDue p s)
    (h : ∀ k, Ensures (f k) (ResetDue p)) : Ensures (outsideRegisters sp c s f) (ResetDue p) :=
  ensures_withProcessor fun k _ => ensures_ite (fun _ => ensures_next due) fun _ =>
    ensures_ite (fun _ => ensures_fault _) fun _ => h k

theorem ResetDue.memoryAccess (due : ResetDue p s) (c : Cycle) : Ensures (memoryAccess c s) (ResetDue p) := by
  refine due.outsideRegisters fun _ => ?_
  split
  · exact ensures_next (due.modifyCpu _)
  · exact ensures_next (due.modifyPackage fun _ marked => marked)

theorem ResetDue.ioSpaceAccess (due : ResetDue p s) (c : Cycle) : Ensures (ioSpaceAccess c s) (ResetDue p) :=
  due.outsideRegisters fun _ => ensures_ite (fun _ => ensures_refused _) fun _ => ensures_refused _

/-- No byte at the FIFO reaches a package. -/
theorem ResetDue.fifoWrite (due : ResetDue p s) (b : Byte) : Ensures (fifoWrite b s) (ResetDue p) := by
  obtain ⟨-, -, e⟩ | ⟨-, e⟩ | ⟨-, e⟩ := fifoWrite_cases b s <;> rw [e] <;> exact ensures_next due.of_same

/-! ### The test access port -/

theorem ResetDue.modifyTap (due : ResetDue p s) (f : Package → Tap) : ResetDue p (modifyTap s q f) :=
  due.modifyPackage fun k marked => (startedOnFall_needsReset k _).trans marked

theorem ResetDue.tapRise (due : ResetDue p s) (tms tdi : Option Bool) : Ensures (tapRise q tms tdi s) (ResetDue p) :=
  ensures_withPackage fun _ _ => ensures_next (ResetDue.modifyTap due.of_same _)

/-- Update-IR sets the mark, or leaves it. -/
theorem ResetDue.tapFall (due : ResetDue p s) : Ensures (tapFall q s) (ResetDue p) := by
  refine ensures_withPackage fun _ _ => ?_
  split
  · exact ensures_next (due.modifyTap _)
  · refine ensures_ite (fun _ => ensures_next (ResetDue.modifyTap (due.modifyPackage fun _ marked => ?_) _)) fun _ =>
      ensures_refused _
    rw [marked, Bool.true_or]
  · exact ensures_next due

theorem ResetDue.tapEvent (due : ResetDue p s) (e : TapEvent) : Ensures (tapEvent q e s) (ResetDue p) := by
  cases e with
  | rise tms tdi => exact due.tapRise tms tdi
  | fall => exact due.tapFall
  | trstLow => exact ensures_withPackage fun _ _ => ensures_next (due.modifyTap _)

theorem ResetDue.tapClocks (due : ResetDue p s) (l : List (Bool × Bool)) : Ensures (tapClocks q l s) (ResetDue p) := by
  induction l generalizing s with
  | nil => exact ensures_next due
  | cons x r ih =>
    exact ensures_andThen (ensures_andThen (due.tapRise _ _) fun _ due' => due'.tapFall) fun _ due' => ih due'

theorem ResetDue.loadAndScan (due : ResetDue p s) (op : BitVec 4) (tdi : List Bool) :
    Ensures (loadAndScan q op tdi s) (ResetDue p) :=
  ensures_withPackage fun _ _ => ensures_andThen (due.tapClocks _) fun _ due₁ => ensures_andThen (due₁.tapClocks _) fun _ due₂ =>
    ensures_ite (fun _ => ensures_next due₂) fun _ => due₂.tapClocks _

/-! ### The ICC bus -/

theorem ResetDue.resetByMessage (due : ResetDue p s) (q : Nat) : ResetDue p (resetByMessage s q) :=
  (due.modifyLocal (q := q) softwareResetLocal).of_same

theorem ResetDue.releaseByMessage (due : ResetDue p s) (q : Nat) : ResetDue p (releaseByMessage s q) :=
  due.modifyPackage fun k marked => by
    split
    · exact (startedOnFall_needsReset k _).trans marked
    · exact marked

theorem ResetDue.foldl {f : State → Nat → State} (each : ∀ (t : State) (q : Nat), ResetDue p t → ResetDue p (f t q))
    (due : ResetDue p s) (qs : List Nat) : ResetDue p (qs.foldl f s) := by
  induction qs generalizing s with
  | nil => exact due
  | cons q r ih => exact ih (each s q due)

theorem ResetDue.synchroniseArbIds (due : ResetDue p s) : ResetDue p (synchroniseArbIds s) := by
  obtain ⟨k, present, marked⟩ := due
  refine ⟨_, (List.getElem?_map ..).trans (congrArg _ present), ?_⟩
  dsimp only
  split <;> exact marked

theorem ResetDue.deliverTo (due : ResetDue p s) (m : Message) (choice : List Nat) (ts : List (Nat × Package)) :
    ResetDue p (deliverTo m choice ts s) := by
  simp only [Machine.deliverTo]
  split
  · exact (unitStep_eachLocal (step_acceptFixed _ _ _) _).resetDue due
  · exact (unitStep_eachLocal (step_acceptFixed _ _ _) _).resetDue due
  · exact (unitStep_eachLocal step_acceptExtInt _).resetDue due
  · exact (unitStep_eachLocal (step_acceptNmi _) _).resetDue due
  · split
    · exact due.foldl (fun _ q due' => due'.resetByMessage q) _
    · exact (due.foldl (fun _ q due' => due'.releaseByMessage q) _).synchroniseArbIds
  · exact (unitStep_remoteRead m ts).resetDue due

theorem ResetDue.deliverCarried (due : ResetDue p s) (choice : List Nat) : Ensures (deliverCarried choice s) (ResetDue p) := by
  unfold Machine.deliverCarried
  split
  · exact ensures_next due
  · refine ensures_ite (fun _ => ensures_ite (fun _ => ensures_fault _) fun _ => ensures_ite (fun _ => ensures_refused _)
      fun _ => ensures_next ?_) fun _ => ensures_refused _
    exact (unitStep_acknowledgeSender _ _).resetDue (ResetDue.deliverTo due.of_same _ choice _)

theorem ResetDue.arbitrate (due : ResetDue p s) (i : Nat) : Ensures (arbitrate i s) (ResetDue p) := by
  unfold Machine.arbitrate
  split
  · exact ensures_ite (fun _ => ensures_refused _) fun _ => ensures_next due.of_same
  · exact ensures_next due

/-! ### Operations and events -/

theorem ResetDue.exec (due : ResetDue p s) {i : Instr} (row : DecodedRow i) : Ensures (exec i s) (ResetDue p) := by
  cases row with
  | localRow sel q a =>
    rw [exec_localInstr]
    exact due.localAccess fun v _ => ensures_localWrite sel v
  | ioRow sel q n a =>
    rw [exec_ioInstr]
    exact due.ioAccess n sel a
  | indexRow i q n a =>
    rw [exec_indexInstr]
    exact due.indexAccess n i a
  | commandRow mode q f =>
    rw [exec_commandInstr]
    exact ensures_ite (fun _ => due.commandAccess _) fun _ => ensures_fault _
  | jtagRow op q tdi =>
    rw [exec_jtagInstr]
    exact ensures_ite (fun _ => due.loadAndScan op tdi) fun _ => ensures_refused _
  | perpendicularMode b => exact ensures_andThen (due.fifoWrite _) fun _ due' => due'.fifoWrite b
  | dumpreg => exact ensures_next due.of_same

theorem ResetDue.otherCycle (due : ResetDue p s) (e : DecodeError) (c : Cycle) : Ensures (otherCycle e c s) (ResetDue p) := by
  cases e with
  | partialOrOffsetAccess =>
    exact ensures_withProcessor fun _ _ => ensures_ite (fun _ => ensures_next due) fun _ =>
      ensures_ite (fun _ => ensures_refused _) fun _ => ensures_fault _
  | outsideDevices => exact ensures_ite (fun _ => due.ioSpaceAccess c) fun _ => due.memoryAccess c
  | reservedCommandBits | tooManyBits => exact ensures_refused _
  | unitWithoutPage => exact ensures_fault _
  | otherFloppyCommand => exact ensures_andThen (due.fifoWrite _) fun _ due' => due'.fifoWrite _

theorem ResetDue.runCycle (due : ResetDue p s) (c : Cycle) : Ensures (runCycle c s) (ResetDue p) := by
  unfold Machine.runCycle
  split
  · exact due.exec (decodedRow_of_decode ‹_›)
  · exact due.otherCycle _ c

theorem ResetDue.runEvent (due : ResetDue p s) {e : Event} (other : e ≠ .resetAssert p) :
    Ensures (runEvent e s) (ResetDue p) := by
  cases e with
  | resetAssert q => exact due.resetAssert fun same => other (congrArg _ same)
  | resetRelease q => exact due.resetRelease
  | addressPins q v => exact due.addressPins v
  | firstReset q b => exact ensures_withPackage fun _ _ => ensures_next (due.modifyPackage fun _ marked => marked)
  | lintPin q j b => exact (ensures_lintPin j b).resetDue_of_unitStep due
  | lintSample q j => exact (ensures_lintSample j).resetDue_of_unitStep due
  | intPin q i b => exact (ensures_intPin i b).resetDue_of_unitStep due
  | ioSample q => exact ensures_ioSample.resetDue_of_unitStep due
  | otherPin q c b => exact due.otherPin c b
  | timerTick q => exact ensures_timerTick.resetDue_of_unitStep due
  | arbitrate i => exact due.arbitrate i
  | deliver choice => exact due.deliverCarried choice
  | drain q => exact due.drainOne
  | cpuStep q => exact due.cpuStep
  | storeSeen i => exact ensures_next (due.storeSeen i)
  | intaFirst q => exact due.intaFirst
  | intaSecond q ext => exact due.intaSecond ext
  | setIntrEnabled q b => exact due.unlessHeld fun c => { c with intrEnabled := b }
  | setPageUncached q b => exact due.unlessHeld fun c => { c with pageUncached := b }
  | tap q e => exact due.tapEvent e
  | fifoWrite b => exact due.fifoWrite b
  | fdcSoftwareReset | fdcHardwareReset | fdcRate r | fdcPrecomp ns | fdcTransfer t d => exact ensures_next due.of_same

theorem ResetDue.step (due : ResetDue p s) (other : ∀ r, s.input ≠ .event (.resetAssert p) :: r) :
    Ensures (step s) (ResetDue p) := by
  have consumed : ResetDue p (consumeInput s) := due.of_same
  unfold Machine.step
  split
  · exact ensures_next due
  · exact consumed.runCycle _
  · rename_i e r head
    exact consumed.runEvent fun same => other r (same ▸ head)

end

/-- Settles O56, by cases on what the step does: every operation, and every event but the hardware reset, keeps the mark. -/
theorem resetDueStays : Obligations.ResetDueStays := fun _ t _ k present marked other next =>
  ResetDue.step ⟨k, present, marked⟩ other t next

end Sys2Proof.Machine
end

section
/-!
PROOFS. The rule of R174: the delivery state of a local unit is not Idle exactly while its one message waits or is carried. It is
followed for one unit at a time. Only a command, the delivery of a message and the resets touch the delivery state or the bus; a
command finds the unit Idle and leaves one message, a delivery takes that message away and makes the unit Idle, and a reset of
the unit does both at once.
-/

namespace Sys2Proof.Machine

/-! ### The delivery state and the messages of one unit -/

/-- The messages of the local unit of package `p` that wait or are carried (R68). -/
def State.onTheWay (s : State) (p : Nat) : List Message :=
  (s.icc.carried.toList ++ s.icc.queue).filter fun m => m.source == .local p

/-- R174 for the local unit of package `p`. -/
structure DeliveryInv (p : Nat) (s : State) : Prop where
  single : (s.onTheWay p).length ≤ 1
  pending : ∀ k, s.packages[p]? = some k → (sendPending k.lu.icrLow = true ↔ s.onTheWay p ≠ [])

theorem onTheWay_ne_nil {s : State} {p : Nat} :
    s.onTheWay p ≠ [] ↔ ∃ m ∈ s.icc.carried.toList ++ s.icc.queue, m.source = .local p := by
  simp only [State.onTheWay, ne_eq, List.filter_eq_nil_iff, not_forall, beq_iff_eq, not_not, exists_prop]

theorem busInv_iff {s : State} : s.BusInv ↔ ∀ p, DeliveryInv p s :=
  ⟨fun inv p => ⟨inv.single p, fun k present => (inv.pending p k present).trans onTheWay_ne_nil.symm⟩,
    fun inv => ⟨fun p k present => ((inv p).pending k present).trans onTheWay_ne_nil, fun p => (inv p).single⟩⟩

/-- A change of a local unit that leaves its delivery state alone. -/
abbrev KeepsPending (f : LocalUnit → LocalUnit) : Prop := ∀ u, sendPending (f u).icrLow = sendPending u.icrLow

theorem sendPending_setReadStatus (w : Word) (c : BitVec 2) : sendPending (setReadStatus w c) = sendPending w := by
  simp [sendPending, deliveryStateBit, setReadStatus, writeMasked]

theorem sendPending_setBit (w : Word) (b : Bool) : sendPending (setBit w deliveryStateBit b) = b :=
  (getLsbD_setBit w deliveryStateBit b (by decide)).trans (if_pos rfl)

/-- R170: the delivery state is read only. -/
theorem sendPending_storedCommand (u : LocalUnit) (v : Word) : sendPending (storedCommand u v) = sendPending u.icrLow := by
  simp [sendPending, deliveryStateBit, storedCommand, writeMasked, icrMask, icrReadOnly]

theorem sendPending_softwareResetLocal (u : LocalUnit) : sendPending (softwareResetLocal u).icrLow = false := by
  simp [sendPending, softwareResetLocal, clearedLocal, LocalUnit.cleared]

theorem sendPending_hardwareResetLocal (pins : Byte) (u : LocalUnit) :
    sendPending (hardwareResetLocal pins u).icrLow = false := by
  simp [sendPending, hardwareResetLocal, clearedLocal, LocalUnit.cleared]

section
variable {s t : State} {p q : Nat}

/-! ### Changes that keep the rule -/

theorem DeliveryInv.of_same (inv : DeliveryInv p s) (packages : t.packages = s.packages := by rfl)
    (icc : t.icc = s.icc := by rfl) : DeliveryInv p t := by
  have same : t.onTheWay p = s.onTheWay p := by rw [State.onTheWay, icc]; rfl
  exact ⟨same ▸ inv.single, fun k present => same ▸ inv.pending k (packages ▸ present)⟩

theorem DeliveryInv.modifyPackage (inv : DeliveryInv p s) {f : Package → Package}
    (keeps : ∀ k, sendPending (f k).lu.icrLow = sendPending k.lu.icrLow) : DeliveryInv p (modifyPackage s q f) := by
  refine ⟨inv.single, fun k present => ?_⟩
  rw [modifyPackage_get] at present
  split at present
  · obtain ⟨k₀, present₀, rfl⟩ := Option.map_eq_some_iff.1 present
    exact keeps k₀ ▸ inv.pending k₀ present₀
  · exact inv.pending k present

theorem DeliveryInv.modifyLocal (inv : DeliveryInv p s) {f : LocalUnit → LocalUnit} (keeps : KeepsPending f) :
    DeliveryInv p (modifyLocal s q f) :=
  inv.modifyPackage fun k => keeps k.lu

theorem DeliveryInv.modifyCpu (inv : DeliveryInv p s) (f : Cpu → Cpu) : DeliveryInv p (modifyCpu s q f) :=
  inv.modifyPackage fun _ => rfl

theorem DeliveryInv.modifyIo (inv : DeliveryInv p s) (f : IoUnit → IoUnit) : DeliveryInv p (modifyIo s q f) :=
  inv.modifyPackage fun _ => rfl

theorem DeliveryInv.returnRead (inv : DeliveryInv p s) (v : Option Word) : DeliveryInv p (returnRead s q v) := by
  unfold Machine.returnRead
  split
  · exact inv.modifyCpu _
  · exact DeliveryInv.modifyCpu (s := { s with fresh := s.fresh + 1 }) inv.of_same _

/-! ### Messages that come and go -/

theorem onTheWay_sendMessage (s : State) (m : Message) (p : Nat) :
    (sendMessage s m).onTheWay p = s.onTheWay p ++ if m.source = .local p then [m] else [] := by
  simp only [State.onTheWay, sendMessage_queue, sendMessage_carried, ← List.append_assoc, List.filter_append, List.filter_cons,
    List.filter_nil, beq_iff_eq]

theorem DeliveryInv.sendMessage (inv : DeliveryInv p s) {m : Message} (other : m.source ≠ .local p) :
    DeliveryInv p (sendMessage s m) := by
  have same : (Machine.sendMessage s m).onTheWay p = s.onTheWay p := by
    rw [onTheWay_sendMessage, if_neg other, List.append_nil]
  exact ⟨same ▸ inv.single, fun k present => same ▸ inv.pending k present⟩

theorem onTheWay_keepMessages (s : State) (keep : Source → Bool) (p : Nat) :
    (keepMessages s keep).onTheWay p = if keep (.local p) then s.onTheWay p else [] := by
  have carried (o : Option Message) : (o.filter fun m => keep m.source).toList = o.toList.filter fun m => keep m.source := by
    cases o <;> simp [Option.filter, List.filter_cons]; split <;> rfl
  simp only [State.onTheWay, keepMessages, carried, ← List.filter_append, List.filter_filter]
  split
  case isTrue kept => exact List.filter_congr fun m _ => by by_cases own : m.source = .local p <;> simp [own, kept]
  case isFalse lost => exact List.filter_eq_nil_iff.2 fun m _ => by by_cases own : m.source = .local p <;> simp [own, lost]

/-- A reset of the units of package `q` that makes its local unit Idle and takes its messages off the bus. -/
theorem DeliveryInv.reset (inv : DeliveryInv p s) {f : Package → Package} {keep : Source → Bool}
    (idle : ∀ k, sendPending (f k).lu.icrLow = false) (lost : ∀ p, keep (.local p) = (p != q)) :
    DeliveryInv p (keepMessages (Machine.modifyPackage s q f) keep) := by
  have messages : (keepMessages (Machine.modifyPackage s q f) keep).onTheWay p = if p ≠ q then s.onTheWay p else [] := by
    simp only [onTheWay_keepMessages, lost, bne_iff_ne]
    rfl
  by_cases here : p = q
  · subst here
    rw [if_neg (not_not.2 rfl)] at messages
    refine ⟨by simp [messages], fun k present => ?_⟩
    obtain ⟨k₀, -, rfl⟩ := Option.map_eq_some_iff.1 ((modifyPackage_get_same ..).symm.trans present)
    simp [messages, idle]
  · rw [if_pos here] at messages
    exact ⟨messages ▸ inv.single, fun k present =>
      messages ▸ inv.pending k ((modifyPackage_get_other (Ne.symm here)).symm.trans present)⟩

/-! ### Writes of a local unit register, and commands (R101, R170 to R173) -/

theorem DeliveryInv.localStore (inv : DeliveryInv p s) {f : LocalUnit → LocalUnit} (keeps : KeepsPending f) :
    Ensures (localStore q s f) (DeliveryInv p) :=
  ensures_functional fun _ _ => ensures_ite (fun _ => ensures_next inv) fun _ => ensures_next (inv.modifyLocal keeps)

theorem DeliveryInv.localIgnore (inv : DeliveryInv p s) : Ensures (localIgnore q s) (DeliveryInv p) :=
  ensures_functional fun _ _ => ensures_next inv

theorem storeSvr_icrLow (v : Word) (u : LocalUnit) : (storeSvr v u).icrLow = u.icrLow := by
  dsimp only [storeSvr]
  split
  · rw [dispense_icrLow]
    split <;> rfl
  · rfl

theorem DeliveryInv.storeRemote (inv : DeliveryInv p s) (v : Option Word) : DeliveryInv p (storeRemote s q v) :=
  DeliveryInv.modifyLocal (s := { s with fresh := remoteFresh s v }) inv.of_same fun _ => sendPending_setReadStatus ..

theorem DeliveryInv.resetByMessage (inv : DeliveryInv p s) (q : Nat) : DeliveryInv p (resetByMessage s q) :=
  inv.reset (fun k => sendPending_softwareResetLocal k.lu) fun _ => by rw [Bool.eq_iff_iff]; simp

theorem DeliveryInv.releaseByMessage (inv : DeliveryInv p s) (q : Nat) : DeliveryInv p (releaseByMessage s q) :=
  inv.modifyPackage fun k => by
    split
    · rw [startedOnFall_eq]; rfl
    · rfl

/-- R173: a command that acts on its own unit at once. -/
theorem DeliveryInv.deliverSelf (inv : DeliveryInv p s) (u : LocalUnit) (m : Message) :
    DeliveryInv p (deliverSelf q u m s) := by
  unfold Machine.deliverSelf
  split
  · exact inv.modifyLocal fun _ => by rw [acceptFixed_icrLow]
  · exact inv.modifyLocal fun _ => by rw [acceptFixed_icrLow]
  · exact inv.modifyLocal fun _ => by rw [acceptExtInt_icrLow]
  · exact inv.modifyLocal fun _ => rfl
  · split
    · exact inv.resetByMessage q
    · exact inv.releaseByMessage q
  · exact inv.storeRemote _

/-- R170: a unit whose delivery state is Idle sends a message. -/
theorem DeliveryInv.send {k : Package} (inv : DeliveryInv p s) (present : s.packages[q]? = some k)
    (idle : sendPending k.lu.icrLow = false) {w : Word} (busy : sendPending w = true) {m : Message}
    (source : m.source = .local q) : DeliveryInv p (Machine.sendMessage (storeIcrLow s q w) m) := by
  by_cases here : p = q
  · subst here
    have none : s.onTheWay p = [] := by
      by_contra some
      rw [(inv.pending k present).2 some] at idle
      exact Bool.noConfusion idle
    have one : (Machine.sendMessage (storeIcrLow s p w) m).onTheWay p = [m] := by
      rw [onTheWay_sendMessage, if_pos source]
      exact congrArg (· ++ [m]) none
    refine ⟨by simp [one], fun k' present' => ?_⟩
    obtain ⟨k₀, -, rfl⟩ := Option.map_eq_some_iff.1 ((modifyPackage_get_same ..).symm.trans present')
    simp [one, busy]
  · refine DeliveryInv.sendMessage (s := storeIcrLow s q w) ⟨inv.single, fun k' present' => ?_⟩ fun own => ?_
    · exact inv.pending k' ((modifyPackage_get_other (Ne.symm here)).symm.trans present')
    · exact here (Source.local.inj (own.symm.trans source))

theorem DeliveryInv.issueCommand {k : Package} (inv : DeliveryInv p s) (present : s.packages[q]? = some k)
    (idle : sendPending k.lu.icrLow = false) (mode : DeliveryMode) (v : Word) :
    DeliveryInv p (issueCommand q k.lu mode (storedCommand k.lu v) s) := by
  unfold Machine.issueCommand
  split
  · have stored : DeliveryInv p (storeIcrLow s q (storedCommand k.lu v)) := by
      refine ⟨inv.single, fun k' present' => ?_⟩
      by_cases here : q = p
      · subst here
        obtain ⟨k₀, present₀, rfl⟩ := Option.map_eq_some_iff.1 ((modifyPackage_get_same ..).symm.trans present')
        obtain rfl := Option.some.inj (present.symm.trans present₀)
        exact (Bool.eq_iff_iff.1 (sendPending_storedCommand k.lu v)).trans (inv.pending k present)
      · exact inv.pending k' ((modifyPackage_get_other here).symm.trans present')
    exact stored.deliverSelf _ _
  · exact inv.send present idle (sendPending_setBit _ true) rfl

theorem DeliveryInv.writeIcrLow (inv : DeliveryInv p s) (v : Word) : Ensures (writeIcrLow q v s) (DeliveryInv p) := by
  refine ensures_functional fun k present => ensures_ite (fun _ => ensures_next inv) fun _ =>
    ensures_ite (fun _ => ensures_fault _) fun idle => ?_
  dsimp only
  split
  · exact ensures_fault _
  · exact ensures_ite (fun _ => ensures_fault _) fun _ => ensures_ite
      (fun _ => ensures_next (inv.issueCommand present (Bool.eq_false_iff.2 idle) _ v)) fun _ => ensures_fault _

/-- R101: only the register of the ICR low word holds the delivery state. -/
theorem DeliveryInv.localWrite (inv : DeliveryInv p s) (sel : BitVec 6) (v : Word) :
    Ensures (localWrite q sel v s) (DeliveryInv p) := by
  unfold Machine.localWrite
  split
  · exact inv.localStore fun _ => rfl
  · exact inv.localIgnore
  · exact inv.localStore fun _ => by rw [dispense_icrLow]
  · exact inv.localStore fun _ => by rw [endOfInterrupt_icrLow]
  · exact inv.localIgnore
  · exact inv.localStore fun _ => rfl
  · exact inv.localStore fun _ => rfl
  · exact ensures_functional fun _ _ => ensures_ite (fun _ => ensures_next inv) fun _ => ensures_ite (fun _ => ensures_fault _)
      fun _ => ensures_next (inv.modifyLocal fun u => by rw [storeSvr_icrLow])
  · exact inv.writeIcrLow v
  · exact inv.localStore fun _ => rfl
  · exact inv.localStore fun _ => rfl
  · exact inv.localStore fun _ => rfl
  · exact inv.localStore fun _ => rfl
  · exact inv.localStore fun _ => rfl
  · exact inv.localIgnore
  · exact inv.localStore fun _ => rfl
  · refine ensures_ite (fun _ => inv.localIgnore) fun _ => ensures_ite (fun _ => inv.localIgnore) fun _ =>
      ensures_ite (fun _ => inv.localIgnore) fun _ => ?_
    exact ensures_functional fun _ _ => ensures_ite (fun _ => ensures_next inv) fun _ => ensures_next inv.of_same

/-! ### The I/O units (R201, R206, R207): their messages are no local unit's -/

theorem DeliveryInv.ioSend (inv : DeliveryInv p s) (n : Nat) (j : Fin 16) (lvl : Bool) (u : IoUnit) :
    Ensures (ioSend n j lvl u s) (DeliveryInv p) := by
  unfold Machine.ioSend
  split
  · exact ensures_fault _
  · exact ensures_ite (fun _ => ensures_fault _) fun _ => ensures_ite
      (fun _ => ensures_next ((inv.modifyIo _).sendMessage Source.noConfusion)) fun _ => ensures_fault _

theorem DeliveryInv.followLevel (inv : DeliveryInv p s) (n : Nat) (j : Fin 16) :
    Ensures (followLevel n j s) (DeliveryInv p) :=
  ensures_withPackage fun _ _ => ensures_ite (fun _ => (inv.modifyIo _).ioSend n j _ _) fun _ => ensures_next inv

theorem DeliveryInv.ioStore (inv : DeliveryInv p s) {f : State → Res} (h : Ensures (f s) (DeliveryInv p)) :
    Ensures (ioStore q s f) (DeliveryInv p) :=
  ensures_functional fun _ _ => ensures_ite (fun _ => ensures_next inv) fun _ => h

theorem DeliveryInv.indexWrite (inv : DeliveryInv p s) (n : Nat) (i : Byte) (v : Word) :
    Ensures (indexWrite n i v s) (DeliveryInv p) := by
  refine ensures_ite (fun _ => ensures_next (inv.modifyIo _)) fun _ => ensures_ite (fun _ => ensures_next inv) fun _ =>
    ensures_ite (fun _ => ?entry) fun _ => ensures_next inv.of_same
  exact ensures_ite (fun _ => ensures_next (inv.modifyIo _)) fun _ => (inv.modifyIo _).followLevel n _

theorem DeliveryInv.ioWrite (inv : DeliveryInv p s) (n : Nat) (sel : BitVec 6) (v : Word) :
    Ensures (ioWrite n sel v s) (DeliveryInv p) := by
  unfold Machine.ioWrite
  split
  · exact inv.ioStore (ensures_next (inv.modifyIo _))
  · exact inv.ioStore (ensures_withPackage fun _ _ => inv.indexWrite n _ v)
  · exact inv.ioStore (ensures_next inv.of_same)

theorem DeliveryInv.regWrite (inv : DeliveryInv p s) (addr v : Word) : Ensures (regWrite q addr v s) (DeliveryInv p) := by
  unfold Machine.regWrite
  split
  · exact inv.localWrite _ v
  · exact inv.ioWrite _ _ v
  · exact ensures_next inv

/-! ### Inputs and the timer (R58, R180 to R184, R206 to R208) -/

theorem mirrorRemoteIrr_icrLow (x : LvtEntry) (lvl : Bool) (u : LocalUnit) :
    (mirrorRemoteIrr x lvl u).icrLow = u.icrLow := by
  unfold mirrorRemoteIrr
  split
  · rfl
  · split <;> rfl
  · split <;> rfl

theorem setLint_icrLow (j : Lint) (x : InputPin) (u : LocalUnit) : (setLint j x u).icrLow = u.icrLow := by cases j <;> rfl

theorem DeliveryInv.injectLocal (inv : DeliveryInv p s) (x : LvtEntry) (lvl : Bool) :
    Ensures (injectLocal q x lvl s) (DeliveryInv p) := by
  refine ensures_withPackage fun _ _ => ensures_ite (fun _ => ensures_next inv) fun _ => ?_
  split
  · exact ensures_next (inv.modifyLocal fun _ => by rw [acceptFixed_icrLow, mirrorRemoteIrr_icrLow])
  · exact ensures_ite (fun _ => ensures_next (inv.modifyLocal fun _ => by rw [acceptExtInt_icrLow])) fun _ => ensures_fault _
  · exact ensures_ite (fun _ => ensures_next (inv.modifyLocal fun _ => rfl)) fun _ => ensures_fault _
  · exact ensures_fault _

theorem DeliveryInv.setLint (inv : DeliveryInv p s) (j : Lint) (x : InputPin) :
    DeliveryInv p (Machine.modifyLocal s q (setLint j x)) :=
  inv.modifyLocal fun _ => by rw [setLint_icrLow]

theorem DeliveryInv.lintPin (inv : DeliveryInv p s) (j : Lint) (lvl : Bool) : Ensures (lintPin q j lvl s) (DeliveryInv p) :=
  ensures_withPackage fun _ _ => ensures_ite (fun _ => ensures_next (inv.setLint j _)) fun _ =>
    ensures_ite (fun _ => ensures_next (inv.setLint j _)) fun _ => ensures_ite (fun _ => ensures_next inv) fun _ =>
      (inv.setLint j _).injectLocal _ lvl

theorem DeliveryInv.lintSample (inv : DeliveryInv p s) (j : Lint) : Ensures (lintSample q j s) (DeliveryInv p) :=
  ensures_functional fun _ _ => ensures_ite
    (fun _ => ensures_ite (fun _ => (inv.setLint j _).injectLocal _ true) fun _ => ensures_next (inv.setLint j _))
    fun _ => ensures_next inv

theorem DeliveryInv.timerTick (inv : DeliveryInv p s) : Ensures (timerTick q s) (DeliveryInv p) := by
  have counted : DeliveryInv p (Machine.modifyLocal s q fun u => { u with timerCur := countedDown u }) :=
    inv.modifyLocal fun _ => rfl
  exact ensures_functional fun _ _ => ensures_ite (fun _ => ensures_next inv) fun _ =>
    ensures_ite (fun _ => counted.injectLocal _ true) fun _ => ensures_next counted

theorem DeliveryInv.intPin (inv : DeliveryInv p s) (j : Fin 16) (lvl : Bool) : Ensures (intPin q j lvl s) (DeliveryInv p) :=
  ensures_withPackage fun _ _ => ensures_ite (fun _ => ensures_next (inv.modifyIo _)) fun _ =>
    ensures_ite (fun _ => ensures_next (inv.modifyIo _)) fun _ => (inv.modifyIo _).followLevel q j

theorem DeliveryInv.ioSample (inv : DeliveryInv p s) : Ensures (ioSample q s) (DeliveryInv p) := by
  refine ensures_functional fun _ _ => ensures_ite (fun _ => ensures_next inv) fun _ => ?_
  split
  · exact ensures_next inv
  · exact ensures_ite (fun _ => (inv.modifyIo _).ioSend _ _ _ _) fun _ => ensures_next (inv.modifyIo _)

/-! ### The write buffer and the accesses of a processor -/

theorem DeliveryInv.drainList (inv : DeliveryInv p s) (l : List (Word × Word)) :
    Ensures (drainList q l s) (DeliveryInv p) := by
  induction l generalizing s with
  | nil => exact ensures_next inv
  | cons w r ih => exact ensures_andThen ((inv.modifyCpu _).regWrite w.1 w.2) fun _ inv' => ih inv'

theorem DeliveryInv.drainAll (inv : DeliveryInv p s) : Ensures (drainAll q s) (DeliveryInv p) :=
  ensures_withPackage fun k _ => inv.drainList k.cpu.wbuf

theorem DeliveryInv.drainOne (inv : DeliveryInv p s) : Ensures (drainOne q s) (DeliveryInv p) := by
  refine ensures_withProcessor fun _ _ => ensures_ite (fun _ => ensures_next inv) fun _ => ?_
  split
  · exact ensures_next inv
  · exact (inv.modifyCpu _).regWrite _ _

theorem DeliveryInv.registerAccess {l : Location} {sel : BitVec 6} {a : Access} {rd : State → Res} {wr : Word → State → Res}
    (inv : DeliveryInv p s) (read : ∀ t : State, DeliveryInv p t → Ensures (rd t) (DeliveryInv p))
    (write : ∀ (v : Word) (t : State), DeliveryInv p t → Ensures (wr v t) (DeliveryInv p)) :
    Ensures (registerAccess q l sel a rd wr s) (DeliveryInv p) := by
  refine ensures_withProcessor fun _ _ => ensures_ite (fun _ => ensures_next inv) fun _ =>
    ensures_ite (fun _ => ensures_refused _) fun _ => ?_
  cases a with
  | read => exact ensures_andThen inv.drainAll read
  | write v posted =>
    exact ensures_withPackage fun _ _ => ensures_ite (fun _ => ensures_next (inv.modifyCpu _)) fun _ =>
      ensures_andThen inv.drainAll (write v)

theorem DeliveryInv.localAccess {sel : BitVec 6} {a : Access} {rd : LocalUnit → Option Word} {wr : Nat → Word → State → Res}
    (inv : DeliveryInv p s) (write : ∀ (v : Word) (t : State), DeliveryInv p t → Ensures (wr q v t) (DeliveryInv p)) :
    Ensures (localAccess q sel a rd wr s) (DeliveryInv p) :=
  inv.registerAccess (fun _ inv' => ensures_functional fun _ _ => ensures_next (inv'.returnRead _)) write

theorem DeliveryInv.ioAccess (inv : DeliveryInv p s) (n : Nat) (sel : BitVec 6) (a : Access) :
    Ensures (ioAccess q n sel a s) (DeliveryInv p) := by
  unfold Machine.ioAccess
  split
  · exact inv.registerAccess (fun _ inv' => ensures_functional fun _ _ => ensures_next (inv'.returnRead _))
      fun v _ inv' => inv'.ioWrite n sel v
  · exact ensures_fault _

theorem DeliveryInv.indexAccess (inv : DeliveryInv p s) (n : Nat) (i : Byte) (a : Access) :
    Ensures (indexAccess q n i a s) (DeliveryInv p) :=
  ensures_andThen (inv.ioAccess n _ _) fun _ inv' => inv'.ioAccess n _ _

/-! ### The acknowledge, the resets and the other pins -/

theorem DeliveryInv.intaFirst (inv : DeliveryInv p s) : Ensures (intaFirst q s) (DeliveryInv p) := by
  refine ensures_withProcessor fun _ _ => ensures_ite (fun _ => ?_) fun _ => ensures_next inv
  refine ensures_andThen (P := DeliveryInv p) (ensures_ite (fun _ => inv.drainAll) fun _ => ensures_next inv) fun t inv' => ?_
  refine ensures_functional fun _ _ => ensures_ite (fun _ => ensures_next inv') fun _ => ensures_next ?_
  exact (DeliveryInv.modifyCpu (s := { t with fresh := t.fresh + 1 }) inv'.of_same _).modifyLocal
    fun _ => by rw [acknowledgeFirst_icrLow]

theorem DeliveryInv.intaSecond (inv : DeliveryInv p s) (ext : Byte) : Ensures (intaSecond q ext s) (DeliveryInv p) :=
  ensures_withProcessor fun _ _ => ensures_ite
    (fun _ => ensures_functional fun _ _ =>
      ensures_next ((inv.modifyCpu _).modifyLocal fun _ => by rw [acknowledgeSecond_icrLow]))
    fun _ => ensures_next inv

theorem DeliveryInv.resetAssert (inv : DeliveryInv p s) : Ensures (resetAssert q s) (DeliveryInv p) :=
  ensures_withPackage fun _ _ => ensures_next
    (inv.reset (fun k => sendPending_hardwareResetLocal k.addrPins k.lu) fun _ => rfl)

theorem DeliveryInv.resetRelease (inv : DeliveryInv p s) : Ensures (resetRelease q s) (DeliveryInv p) :=
  ensures_withPackage fun _ _ => ensures_ite
    (fun _ => ensures_next (inv.modifyPackage fun _ => by rw [startedOnFall_eq]; rfl)) fun _ => ensures_next inv

theorem DeliveryInv.addressPins (inv : DeliveryInv p s) (v : Byte) : Ensures (addressPins q v s) (DeliveryInv p) :=
  ensures_withPackage fun _ _ => ensures_next (inv.modifyPackage fun _ => by split <;> rfl)

theorem setOtherPin_lu (c : Fin 137) (lvl : Bool) (k : Package) : (setOtherPin c lvl k).lu = k.lu := by
  unfold setOtherPin
  split
  · split <;> rfl
  · rfl

theorem DeliveryInv.otherPin (inv : DeliveryInv p s) (c : Fin 137) (lvl : Bool) :
    Ensures (withPackage s q fun _ => .next (Machine.modifyPackage s q (setOtherPin c lvl))) (DeliveryInv p) :=
  ensures_withPackage fun _ _ => ensures_next (inv.modifyPackage fun _ => by rw [setOtherPin_lu])

/-! ### The processors, memory and the floppy controller -/

theorem DeliveryInv.unlessHeld (inv : DeliveryInv p s) (f : Cpu → Cpu) :
    Ensures (withProcessor s q fun k => if cpuHeld k then .next s else .next (Machine.modifyCpu s q f)) (DeliveryInv p) :=
  ensures_withProcessor fun _ _ => ensures_ite (fun _ => ensures_next inv) fun _ => ensures_next (inv.modifyCpu f)

theorem DeliveryInv.cpuStep (inv : DeliveryInv p s) : Ensures (cpuStep q s) (DeliveryInv p) := by
  refine ensures_withProcessor fun _ _ => ensures_ite (fun _ => ensures_next inv) fun _ => ensures_next ?_
  exact (DeliveryInv.modifyCpu (s := { s with fresh := s.fresh + 1 }) inv.of_same _).of_same (issue_packages ..)
    (issue_icc ..)

theorem DeliveryInv.modifyView (inv : DeliveryInv p s) (f : List Host.Cell → List Host.Cell) :
    DeliveryInv p (Machine.modifyPackage s q fun k => { k with view := f k.view }) :=
  inv.modifyPackage fun _ => rfl

theorem DeliveryInv.storeSeen (inv : DeliveryInv p s) (i : Nat) : DeliveryInv p (storeSeen i s) := by
  unfold Machine.storeSeen
  split
  · rename_i x _
    exact (inv.modifyView (q := x.observer) fun m => memWrite m x.addr.toNat x.byte).of_same
  · exact inv

theorem DeliveryInv.outsideRegisters {sp : Space} {c : Cycle} {f : Package → Res} (inv : DeliveryInv p s)
    (h : ∀ k, Ensures (f k) (DeliveryInv p)) : Ensures (outsideRegisters sp c s f) (DeliveryInv p) :=
  ensures_withProcessor fun k _ => ensures_ite (fun _ => ensures_next inv) fun _ =>
    ensures_ite (fun _ => ensures_fault _) fun _ => h k

theorem DeliveryInv.memoryAccess (inv : DeliveryInv p s) (c : Cycle) : Ensures (memoryAccess c s) (DeliveryInv p) := by
  refine inv.outsideRegisters fun _ => ?_
  split
  · exact ensures_next (inv.modifyCpu _)
  · exact ensures_next (inv.modifyView (q := c.agent) fun m => writeBytes m _ _).of_same

theorem DeliveryInv.ioSpaceAccess (inv : DeliveryInv p s) (c : Cycle) : Ensures (ioSpaceAccess c s) (DeliveryInv p) :=
  inv.outsideRegisters fun _ => ensures_ite (fun _ => ensures_refused _) fun _ => ensures_refused _

theorem DeliveryInv.fifoWrite (inv : DeliveryInv p s) (b : Byte) : Ensures (fifoWrite b s) (DeliveryInv p) := by
  obtain ⟨-, -, e⟩ | ⟨-, e⟩ | ⟨-, e⟩ := fifoWrite_cases b s <;> rw [e] <;> exact ensures_next inv.of_same

/-! ### The test access port -/

theorem DeliveryInv.modifyTap (inv : DeliveryInv p s) (f : Package → Tap) : DeliveryInv p (modifyTap s q f) :=
  inv.modifyPackage fun _ => by rw [startedOnFall_eq]

theorem DeliveryInv.tapRise (inv : DeliveryInv p s) (tms tdi : Option Bool) : Ensures (tapRise q tms tdi s) (DeliveryInv p) :=
  ensures_withPackage fun _ _ => ensures_next (DeliveryInv.modifyTap inv.of_same _)

theorem DeliveryInv.tapFall (inv : DeliveryInv p s) : Ensures (tapFall q s) (DeliveryInv p) := by
  refine ensures_withPackage fun _ _ => ?_
  split
  · exact ensures_next (inv.modifyTap _)
  · have marked : DeliveryInv p (Machine.modifyPackage s q fun k =>
        { k with needsReset := k.needsReset || k.tap.irShift == extestOpcode }) := inv.modifyPackage fun _ => rfl
    exact ensures_ite (fun _ => ensures_next (marked.modifyTap _)) fun _ => ensures_refused _
  · exact ensures_next inv

theorem DeliveryInv.tapEvent (inv : DeliveryInv p s) (e : TapEvent) : Ensures (tapEvent q e s) (DeliveryInv p) := by
  cases e with
  | rise tms tdi => exact inv.tapRise tms tdi
  | fall => exact inv.tapFall
  | trstLow => exact ensures_withPackage fun _ _ => ensures_next (inv.modifyTap _)

theorem DeliveryInv.tapClocks (inv : DeliveryInv p s) (l : List (Bool × Bool)) : Ensures (tapClocks q l s) (DeliveryInv p) := by
  induction l generalizing s with
  | nil => exact ensures_next inv
  | cons x r ih =>
    exact ensures_andThen (ensures_andThen (inv.tapRise _ _) fun _ inv' => inv'.tapFall) fun _ inv' => ih inv'

theorem DeliveryInv.loadAndScan (inv : DeliveryInv p s) (op : BitVec 4) (tdi : List Bool) :
    Ensures (loadAndScan q op tdi s) (DeliveryInv p) :=
  ensures_withPackage fun _ _ => ensures_andThen (inv.tapClocks _) fun _ inv₁ => ensures_andThen (inv₁.tapClocks _)
    fun _ inv₂ => ensures_ite (fun _ => ensures_next inv₂) fun _ => inv₂.tapClocks _

/-! ### A delivery (R160 to R168, R172, R174) -/

/-- The changes that a delivery makes up to the acknowledgement of the sender: what is true before it and outlives each of them
is true after it. -/
structure OutlivesDelivery (P : State → Prop) : Prop where
  modifyLocal : ∀ (s : State) (q : Nat) (f : LocalUnit → LocalUnit), KeepsPending f → P s → P (Machine.modifyLocal s q f)
  resetByMessage : ∀ (s : State) (q : Nat), P s → P (Machine.resetByMessage s q)
  releaseByMessage : ∀ (s : State) (q : Nat), P s → P (Machine.releaseByMessage s q)
  synchroniseArbIds : ∀ s : State, P s → P (Machine.synchroniseArbIds s)
  fresh : ∀ (s : State) (n : Nat), P s → P { s with fresh := n }

theorem foldl_of_each {P : State → Prop} {f : State → Nat → State} (each : ∀ (s : State) (q : Nat), P s → P (f s q))
    (qs : List Nat) (h : P s) : P (qs.foldl f s) := by
  induction qs generalizing s with
  | nil => exact h
  | cons q r ih => exact ih (each s q h)

theorem OutlivesDelivery.remoteRead {P : State → Prop} (outlives : OutlivesDelivery P) (m : Message)
    (ts : List (Nat × Package)) (h : P s) : P (remoteRead m ts s) := by
  unfold Machine.remoteRead
  split
  · exact outlives.modifyLocal _ _ _ (fun _ => sendPending_setReadStatus ..) (outlives.fresh _ _ h)
  · split
    · exact h
    · exact outlives.modifyLocal _ _ _ (fun _ => sendPending_setReadStatus ..) h
  · exact h

theorem OutlivesDelivery.deliverTo {P : State → Prop} (outlives : OutlivesDelivery P) (m : Message) (choice : List Nat)
    (ts : List (Nat × Package)) (h : P s) : P (deliverTo m choice ts s) := by
  have each {f : LocalUnit → LocalUnit} (keeps : KeepsPending f) (qs : List Nat) : P (eachLocal f qs s) :=
    foldl_of_each (fun s q => outlives.modifyLocal s q f keeps) qs h
  unfold Machine.deliverTo
  dsimp only
  split
  · exact each (fun _ => by rw [acceptFixed_icrLow]) _
  · exact each (fun _ => by rw [acceptFixed_icrLow]) _
  · exact each (fun _ => by rw [acceptExtInt_icrLow]) _
  · exact each (fun _ => by rw [acceptNmi_icrLow]) _
  · split
    · exact foldl_of_each outlives.resetByMessage _ h
    · exact outlives.synchroniseArbIds _ (foldl_of_each outlives.releaseByMessage _ h)
  · exact outlives.remoteRead m ts h

theorem DeliveryInv.synchroniseArbIds (inv : DeliveryInv p s) : DeliveryInv p (synchroniseArbIds s) := by
  refine ⟨inv.single, fun k present => ?_⟩
  obtain ⟨k₀, present₀, rfl⟩ := Option.map_eq_some_iff.1 (List.getElem?_map ▸ present)
  have kept := inv.pending k₀ present₀
  split <;> exact kept

theorem deliveryInv_outlives (p : Nat) : OutlivesDelivery (DeliveryInv p) where
  modifyLocal _ _ _ keeps inv := inv.modifyLocal keeps
  resetByMessage _ q inv := inv.resetByMessage q
  releaseByMessage _ q inv := inv.releaseByMessage q
  synchroniseArbIds _ inv := inv.synchroniseArbIds
  fresh _ _ inv := inv.of_same

/-- Nothing that a delivery does puts a message on the bus. -/
theorem onTheWay_nil_outlives (p : Nat) : OutlivesDelivery fun s => s.onTheWay p = [] where
  modifyLocal _ _ _ _ none := none
  resetByMessage s q none := by
    rw [Machine.resetByMessage, onTheWay_keepMessages]
    split
    · exact none
    · rfl
  releaseByMessage _ _ none := none
  synchroniseArbIds _ none := none
  fresh _ _ none := none

/-- The messages of one unit while `m` is carried: `m`, if it is one, and those that wait. -/
theorem onTheWay_of_carried {m : Message} (carried : s.icc.carried = some m) (p : Nat) :
    s.onTheWay p = (if m.source = .local p then [m] else []) ++
      State.onTheWay { s with icc := { s.icc with carried := none } } p := by
  simp only [State.onTheWay, carried, Option.toList_some, Option.toList_none, List.nil_append, List.singleton_append,
    List.filter_cons, beq_iff_eq]
  split <;> rfl

/-- R174, R210: what is left of the sender's message makes no local unit's delivery state but its own Idle. -/
theorem DeliveryInv.acknowledgeSender (inv : DeliveryInv p s) {m : Message} (other : m.source ≠ .local p)
    (ts : List (Nat × Package)) : DeliveryInv p (acknowledgeSender m ts s) := by
  unfold Machine.acknowledgeSender
  split
  · rename_i q source
    have apart : q ≠ p := fun here => other (here ▸ source)
    exact ⟨inv.single, fun k present => inv.pending k ((modifyPackage_get_other apart).symm.trans present)⟩
  · dsimp only
    split
    · exact (inv.modifyIo _).modifyIo _
    · exact inv.modifyIo _

/-- R174: the message of the unit has been carried, and it has no other. -/
theorem deliveryInv_acknowledged {m : Message} (source : m.source = .local p) (none : s.onTheWay p = [])
    (ts : List (Nat × Package)) : DeliveryInv p (acknowledgeSender m ts s) := by
  have same : (acknowledgeSender m ts s).onTheWay p = [] := by
    simp only [Machine.acknowledgeSender, source]
    exact none
  refine ⟨by simp [same], fun k present => ?_⟩
  simp only [Machine.acknowledgeSender, source] at present
  obtain ⟨k₀, -, rfl⟩ := Option.map_eq_some_iff.1 ((modifyPackage_get_same ..).symm.trans present)
  simp [same, sendPending_setBit]

theorem DeliveryInv.deliverCarried (inv : DeliveryInv p s) (choice : List Nat) :
    Ensures (deliverCarried choice s) (DeliveryInv p) := by
  unfold Machine.deliverCarried
  split
  · exact ensures_next inv
  rename_i m carried
  refine ensures_ite (fun _ => ensures_ite (fun _ => ensures_fault _) fun _ => ensures_ite (fun _ => ensures_refused _)
    fun _ => ensures_next ?_) fun _ => ensures_refused _
  have messages := onTheWay_of_carried carried p
  by_cases source : m.source = .local p
  · rw [if_pos source] at messages
    have none : State.onTheWay { s with icc := { s.icc with carried := none } } p = [] := by
      have single := inv.single
      rw [messages, List.length_append] at single
      exact List.eq_nil_of_length_eq_zero (by simpa using single)
    exact deliveryInv_acknowledged source ((onTheWay_nil_outlives p).deliverTo m choice _ none) _
  · rw [if_neg source, List.nil_append] at messages
    have free : DeliveryInv p { s with icc := { s.icc with carried := none } } :=
      ⟨messages ▸ inv.single, fun k present => messages ▸ inv.pending k present⟩
    exact ((deliveryInv_outlives p).deliverTo m choice _ free).acknowledgeSender source _

/-- R160: the message that wins the bus is on its way as before. -/
theorem DeliveryInv.arbitrate (inv : DeliveryInv p s) (i : Nat) : Ensures (arbitrate i s) (DeliveryInv p) := by
  unfold Machine.arbitrate
  split
  · rename_i m free waits
    refine ensures_ite (fun _ => ensures_refused _) fun _ => ensures_next ?_
    obtain ⟨inside, rfl⟩ := List.getElem?_eq_some_iff.1 waits
    have moved : (State.onTheWay { s with icc := ⟨s.icc.queue.eraseIdx i, some s.icc.queue[i]⟩ } p).Perm (s.onTheWay p) := by
      simp only [State.onTheWay, free]
      exact (List.getElem_cons_eraseIdx_perm inside).filter _
    refine ⟨moved.length_eq ▸ inv.single, fun k present => (inv.pending k present).trans (not_congr ?_)⟩
    exact ⟨fun none => List.Perm.eq_nil (none ▸ moved), fun none => List.Perm.eq_nil (none ▸ moved.symm)⟩
  · exact ensures_next inv

/-! ### Operations and events -/

theorem DeliveryInv.exec (inv : DeliveryInv p s) {i : Instr} (row : DecodedRow i) : Ensures (exec i s) (DeliveryInv p) := by
  cases row with
  | localRow sel q a =>
    rw [exec_localInstr]
    exact inv.localAccess fun v _ inv' => inv'.localWrite sel v
  | ioRow sel q n a =>
    rw [exec_ioInstr]
    exact inv.ioAccess n sel a
  | indexRow i q n a =>
    rw [exec_indexInstr]
    exact inv.indexAccess n i a
  | commandRow mode q f =>
    rw [exec_commandInstr]
    exact ensures_ite (fun _ => inv.localAccess fun v _ inv' => inv'.writeIcrLow v) fun _ => ensures_fault _
  | jtagRow op q tdi =>
    rw [exec_jtagInstr]
    exact ensures_ite (fun _ => inv.loadAndScan op tdi) fun _ => ensures_refused _
  | perpendicularMode b => exact ensures_andThen (inv.fifoWrite _) fun _ inv' => inv'.fifoWrite b
  | dumpreg => exact ensures_next inv.of_same

theorem DeliveryInv.otherCycle (inv : DeliveryInv p s) (e : DecodeError) (c : Cycle) :
    Ensures (otherCycle e c s) (DeliveryInv p) := by
  cases e with
  | partialOrOffsetAccess =>
    exact ensures_withProcessor fun _ _ => ensures_ite (fun _ => ensures_next inv) fun _ =>
      ensures_ite (fun _ => ensures_refused _) fun _ => ensures_fault _
  | outsideDevices => exact ensures_ite (fun _ => inv.ioSpaceAccess c) fun _ => inv.memoryAccess c
  | reservedCommandBits | tooManyBits => exact ensures_refused _
  | unitWithoutPage => exact ensures_fault _
  | otherFloppyCommand => exact ensures_andThen (inv.fifoWrite _) fun _ inv' => inv'.fifoWrite _

theorem DeliveryInv.runCycle (inv : DeliveryInv p s) (c : Cycle) : Ensures (runCycle c s) (DeliveryInv p) := by
  unfold Machine.runCycle
  split
  · exact inv.exec (decodedRow_of_decode ‹_›)
  · exact inv.otherCycle _ c

theorem DeliveryInv.runEvent (inv : DeliveryInv p s) (e : Event) : Ensures (runEvent e s) (DeliveryInv p) := by
  cases e with
  | resetAssert q => exact inv.resetAssert
  | resetRelease q => exact inv.resetRelease
  | addressPins q v => exact inv.addressPins v
  | firstReset q b => exact ensures_withPackage fun _ _ => ensures_next (inv.modifyPackage fun _ => rfl)
  | lintPin q j b => exact inv.lintPin j b
  | lintSample q j => exact inv.lintSample j
  | intPin q i b => exact inv.intPin i b
  | ioSample q => exact inv.ioSample
  | otherPin q c b => exact inv.otherPin c b
  | timerTick q => exact inv.timerTick
  | arbitrate i => exact inv.arbitrate i
  | deliver choice => exact inv.deliverCarried choice
  | drain q => exact inv.drainOne
  | cpuStep q => exact inv.cpuStep
  | storeSeen i => exact ensures_next (inv.storeSeen i)
  | intaFirst q => exact inv.intaFirst
  | intaSecond q ext => exact inv.intaSecond ext
  | setIntrEnabled q b => exact inv.unlessHeld fun c => { c with intrEnabled := b }
  | setPageUncached q b => exact inv.unlessHeld fun c => { c with pageUncached := b }
  | tap q e => exact inv.tapEvent e
  | fifoWrite b => exact inv.fifoWrite b
  | fdcSoftwareReset | fdcHardwareReset | fdcRate r | fdcPrecomp ns | fdcTransfer t d => exact ensures_next inv.of_same

theorem DeliveryInv.step (inv : DeliveryInv p s) : Ensures (step s) (DeliveryInv p) := by
  have consumed : DeliveryInv p (consumeInput s) := inv.of_same
  unfold Machine.step
  split
  · exact ensures_next inv
  · exact consumed.runCycle _
  · exact consumed.runEvent _

end

/-- Settles O7, unit by unit, by cases on what the step does. -/
theorem stepKeepsDeliveryState : Obligations.StepKeepsDeliveryState := fun _ t inv next =>
  busInv_iff.2 fun p => (busInv_iff.1 inv p).step t next

end Sys2Proof.Machine
end

section
/-!
PROOFS. What a local unit does at once: it dispenses (R144, R146), accepts a vector (R141), ends an interrupt (R150), is enabled
(R140), and follows its inputs LINTIN0 and LINTIN1 (R180 to R183). The highest vector of a register and the injection of an entry
were settled before; here they are put to the states the statements name.
-/

namespace Sys2Proof.Machine

/-! ### Dispensing by cases (R146) -/

section
variable {u : LocalUnit}

theorem dispense_of_disabled (off : enabled u = false) : dispense u = { u with pint := .z } := by
  simp [dispense, off]

theorem dispense_of_dispensable (on : enabled u = true) (free : u.commit = .none) {v : Byte} (may : dispensable u = some v) :
    dispense u = { u with commit := .internal, extInta := false, pint := .high } := by
  simp only [dispense, on, free, may, if_pos]

theorem dispense_of_extIntPending (on : enabled u = true) (free : u.commit = .none) (none : dispensable u = none)
    (pending : u.extIntPending = true) : dispense u = { u with commit := .external, extInta := true, pint := .high } := by
  simp only [dispense, on, free, none, pending, if_pos]

theorem dispense_of_nothing (on : enabled u = true) (free : u.commit = .none) (none : dispensable u = none)
    (quiet : u.extIntPending = false) : dispense u = { u with pint := .low } := by
  simp [dispense, on, free, none, quiet]

end

/-- Settles O17: what may be dispensed is what `dispensable` answers. -/
theorem dispenseDecides : Obligations.DispenseDecides := by
  refine fun u => ⟨dispense_of_disabled, dispense_of_committed, fun on free may => ?some, fun on free none => ?external,
    fun on free none => ?idle⟩
  case some =>
    obtain ⟨v, may⟩ := may
    exact dispense_of_dispensable on free (dispensable_eq_some.2 may)
  case external => exact dispense_of_extIntPending on free (dispensable_eq_none.2 none)
  case idle => exact dispense_of_nothing on free (dispensable_eq_none.2 none)

/-! ### Acceptance (R141) -/

theorem acceptFixed_of_low {v : Byte} (low : v.toNat < 16) (t : TriggerMode) (lvl : Bool) (u : LocalUnit) :
    acceptFixed v t lvl u = u := if_pos low

/-- Acceptance sets the bits of the vector: IRR to whether the interrupt is asserted, and for an assertion TMR to its trigger mode. -/
theorem acceptFixed_of_high {v : Byte} (high : 16 ≤ v.toNat) (t : TriggerMode) (lvl : Bool) (u : LocalUnit) :
    acceptFixed v t lvl u = dispense { u with
      irr := setBit u.irr v.toNat (decide (t = .edge) || lvl)
      tmr := if t = .level ∧ lvl = false then u.tmr else setBit u.tmr v.toNat (decide (t = .level)) } := by
  unfold acceptFixed
  rw [if_neg (Nat.not_lt.2 high)]
  cases t with
  | edge => rfl
  | level => cases lvl <;> rfl

/-- Settles O18: `hasVector_setBit`, for the vector and for the others. -/
theorem acceptFixedEffect : Obligations.AcceptFixedEffect := by
  refine fun u v t lvl => ⟨fun low => acceptFixed_of_low low t lvl u, fun high =>
    ⟨_, _, acceptFixed_of_high high t lvl u, fun x => hasVector_setBit .., fun x => ?tmr⟩⟩
  cases t with
  | edge => exact hasVector_setBit u.tmr v x false
  | level =>
    cases lvl
    · simp
    · exact hasVector_setBit u.tmr v x true

/-! ### The end of an interrupt (R150) -/

theorem endOfInterrupt_of_highest {u : LocalUnit} {w : Byte} (inService : IsHighest u.isr w) :
    endOfInterrupt u = dispense { u with isr := setBit u.isr w.toNat false } := by
  rw [endOfInterrupt, highest_eq_some.2 inService]

theorem endOfInterrupt_of_none {u : LocalUnit} (none : u.isr = 0#256) : endOfInterrupt u = dispense u := by
  rw [endOfInterrupt, highest_eq_none.2 none]

/-! ### A write of the Spurious Vector Register (R38, R140) -/

theorem and_svrMask (v : Word) : v &&& svrMask = (v.extractLsb' 0 9).setWidth 32 := by
  rw [setWidth_eq_zero_append 23]
  calc v &&& svrMask
    _ = (v.extractLsb' 9 23 ++ v.extractLsb' 0 9) &&& (0#23 ++ BitVec.allOnes 9) := by
        rw [BitVec.extractLsb'_append_extractLsb']; rfl
    _ = 0#23 ++ v.extractLsb' 0 9 := by rw [BitVec.and_append, BitVec.and_allOnes, BitVec.and_zero]

theorem svrEnable_stored (v : Word) : svrEnable (v &&& svrMask) = v.getLsbD 8 := by
  simp [svrEnable, svrMask]

section
variable {s : State} {p : Nat} {k : Package} {v : Word}

theorem svrRow_stores (ready : BusReady s p k) (empty : k.cpu.wbuf = [])
    (allowed : k.lu.svr.getLsbD 8 = false ∨ v.getLsbD 8 = true) :
    exec (.luSvr p (.write v false)) s = .next (s.putLocal p k (storeSvr v k.lu)) := by
  have legal : ¬(enabled k.lu = true ∧ svrEnable v = false) := by
    obtain off | on := allowed
    · exact fun both => Bool.false_ne_true (off.symm.trans both.1)
    · exact fun both => Bool.false_ne_true (both.2.symm.trans on)
  refine (localRow_write ready.toReachesPage empty 0b001111#6 v).trans ?_
  change writeSvr p v s = _
  rw [writeSvr, functional_of _ ready.present ready.usable, ready.released, if_neg Bool.false_ne_true, if_neg legal,
    modifyLocal_of ready.present]

theorem svrRow_faults (ready : BusReady s p k) (empty : k.cpu.wbuf = []) (on : k.lu.svr.getLsbD 8 = true)
    (off : v.getLsbD 8 = false) : exec (.luSvr p (.write v false)) s = .fault .localUnitDisabledBySvr := by
  refine (localRow_write ready.toReachesPage empty 0b001111#6 v).trans ?_
  change writeSvr p v s = _
  rw [writeSvr, functional_of _ ready.present ready.usable, ready.released, if_neg Bool.false_ne_true]
  exact if_pos ⟨on, off⟩

end

section
variable {u : LocalUnit} {v : Word}

theorem storeSvr_enables (enables : v.getLsbD 8 = true) (off : u.svr.getLsbD 8 = false) :
    storeSvr v u = dispense { u with svr := (v.extractLsb' 0 9).setWidth 32, pnmi := if u.nmiOut then .high else .low } := by
  have on : enabled { u with svr := v &&& svrMask } = true := (svrEnable_stored v).trans enables
  have was : ¬enabled u = true := Bool.eq_false_iff.1 off
  simp only [storeSvr, if_pos on, if_neg was]
  rw [and_svrMask]
  rfl

theorem storeSvr_of_enabled (enables : v.getLsbD 8 = true) (was : u.svr.getLsbD 8 = true) :
    storeSvr v u = dispense { u with svr := (v.extractLsb' 0 9).setWidth 32 } := by
  have on : enabled { u with svr := v &&& svrMask } = true := (svrEnable_stored v).trans enables
  have before : enabled u = true := was
  simp only [storeSvr, if_pos on, if_pos before]
  rw [and_svrMask]

theorem storeSvr_of_disabled (off : v.getLsbD 8 = false) :
    storeSvr v u = { u with svr := (v.extractLsb' 0 9).setWidth 32 } := by
  have disabled : ¬enabled { u with svr := v &&& svrMask } = true :=
    Bool.eq_false_iff.1 ((svrEnable_stored v).trans off)
  simp only [storeSvr, if_neg disabled]
  rw [and_svrMask]

end

/-- Settles O12: the write of each of the three registers, by what it finds. -/
theorem dispensingWrites : Obligations.DispensingWrites := by
  intro s p k v ready empty
  have stores (sel : BitVec 6) {f : LocalUnit → LocalUnit} := localRow_stores ready empty sel (v := v) (f := f)
  have eoi : exec (.luEoi p (.write v false)) s = .next (s.putLocal p k (endOfInterrupt k.lu)) := stores 0b001011 rfl
  refine ⟨?tpr, fun w inService => ?eoi, fun none => ?eoiNone, fun on off => ?enables, fun on was => ?stays, fun off was => ?off,
    fun off was => svrRow_faults ready empty was off⟩
  case tpr =>
    rw [← and_tprMask]
    exact stores 0b001000 rfl
  case eoi =>
    refine ⟨_, endOfInterrupt_of_highest inService ▸ eoi, fun x => ?_⟩
    rw [hasVector_setBit]
    by_cases here : x = w <;> simp [here]
  case eoiNone => rw [eoi, endOfInterrupt_of_none none]
  case enables => rw [svrRow_stores ready empty (.inl off), storeSvr_enables on off]
  case stays => rw [svrRow_stores ready empty (.inr on), storeSvr_of_enabled on was]
  case off => rw [svrRow_stores ready empty (.inl was), storeSvr_of_disabled off]

/-! ### The inputs LINTIN0 and LINTIN1 (R180 to R183) -/

theorem setLint_eq_withPin (j : Lint) (x : InputPin) (u : LocalUnit) : setLint j x u = u.withPin j x := by cases j <;> rfl

theorem lintOf_eq_pinAt (j : Lint) (u : LocalUnit) : lintOf j u = u.pinAt j := by cases j <;> rfl

theorem lvtOf_lint (j : Lint) (u : LocalUnit) : lvtOf (.lint j) u = u.entryAt j := by cases j <;> rfl

theorem entryAt_withPin (j : Lint) (x : InputPin) (u : LocalUnit) : (u.withPin j x).entryAt j = u.entryAt j := by
  cases j <;> rfl

theorem lvtOf_withPin (j : Lint) (x : InputPin) (u : LocalUnit) : lvtOf (.lint j) (u.withPin j x) = u.entryAt j := by
  rw [lvtOf_lint, entryAt_withPin]

/-- R181: a rise is seen by a detector that waits. -/
theorem sampleEdge_eq (x : InputPin) (b : Bool) :
    sampleEdge x b = ⟨b, if x = ⟨false, .waiting⟩ ∧ b = true then .seen else x.edge⟩ := by
  obtain ⟨level, edge⟩ := x
  have iff : (edge = .waiting ∧ level = false ∧ b = true) ↔ (InputPin.mk level edge = ⟨false, .waiting⟩ ∧ b = true) := by
    rw [InputPin.mk.injEq]
    tauto
  simp only [sampleEdge, iff]

section
variable {s : State} {p : Nat} {k : Package} {j : Lint} {b : Bool}

theorem lintPin_of_masked (present : s.packages[p]? = some k)
    (masked : k.needsReset = true ∨ k.resetPin = true ∨ (k.lu.entryAt j).getLsbD 16 = true) :
    lintPin p j b s = .next (s.putLocal p k (k.lu.withPin j ⟨b, .waiting⟩)) := by
  rw [lintPin, withPackage_of _ present, modifyLocal_of present, setLint_eq_withPin, lvtOf_lint]
  exact if_pos masked

/-- The unit listens to LINTIN`j`: it is in use, and the entry is not masked. -/
structure Listens (s : State) (p : Nat) (k : Package) (j : Lint) : Prop where
  present : s.packages[p]? = some k
  usable : k.needsReset = false
  released : k.resetPin = false
  unmasked : (k.lu.entryAt j).getLsbD 16 = false

theorem Listens.not_masked (h : Listens s p k j) :
    ¬(k.needsReset = true ∨ k.resetPin = true ∨ maskedOf (k.lu.entryAt j) = true) := by
  simp [h.usable, h.released, show maskedOf (k.lu.entryAt j) = false from h.unmasked]

theorem Listens.lintPin_edge (h : Listens s p k j) (edge : (k.lu.entryAt j).getLsbD 15 = false) :
    lintPin p j b s = .next (s.putLocal p k (k.lu.withPin j (sampleEdge (k.lu.pinAt j) b))) := by
  rw [lintPin, withPackage_of _ h.present]
  simp only [modifyLocal_of h.present, setLint_eq_withPin, lvtOf_lint, lintOf_eq_pinAt, if_neg h.not_masked]
  exact if_pos ((triggerOf_eq_edge _).2 edge)

theorem Listens.lintPin_level (h : Listens s p k j) (level : (k.lu.entryAt j).getLsbD 15 = true) :
    lintPin p j b s = if (k.lu.pinAt j).level = b then .next s else
      injectLocal p (.lint j) b (s.putLocal p k (k.lu.withPin j ⟨b, (k.lu.pinAt j).edge⟩)) := by
  have trigger : ¬triggerOf (k.lu.entryAt j) = .edge := by simp [triggerOf_eq_edge, level]
  rw [lintPin, withPackage_of _ h.present]
  simp only [modifyLocal_of h.present, setLint_eq_withPin, lvtOf_lint, lintOf_eq_pinAt, if_neg h.not_masked, if_neg trigger]

theorem Listens.lintSample_waiting (h : Listens s p k j) (waiting : (k.lu.pinAt j).edge = .waiting) :
    lintSample p j s = .next s := by
  rw [lintSample, functional_of _ h.present h.usable]
  simp only [lintOf_eq_pinAt, waiting]
  exact if_neg fun ⟨_, _, _, seen⟩ => EdgeState.noConfusion seen

theorem Listens.lintSample_seen (h : Listens s p k j) (edge : (k.lu.entryAt j).getLsbD 15 = false) {lvl : Bool}
    (pin : k.lu.pinAt j = ⟨lvl, .seen⟩) :
    lintSample p j s = if lvl then injectLocal p (.lint j) true (s.putLocal p k (k.lu.withPin j ⟨lvl, .waiting⟩))
      else .next (s.putLocal p k (k.lu.withPin j ⟨lvl, .waiting⟩)) := by
  rw [lintSample, functional_of _ h.present h.usable]
  simp only [modifyLocal_of h.present, setLint_eq_withPin, lvtOf_lint, lintOf_eq_pinAt, pin]
  exact if_pos ⟨h.released, h.unmasked, (triggerOf_eq_edge _).2 edge, trivial⟩

end

/-- R210 has nothing to say of an edge-triggered entry. -/
theorem mirrorRemoteIrr_edge {j : Lint} {u : LocalUnit} (edge : (u.entryAt j).getLsbD 15 = false) (lvl : Bool) :
    mirrorRemoteIrr (.lint j) lvl u = u := by
  have trigger : ¬triggerOf (u.entryAt j) = .level := by
    rw [triggerOf_eq_level, edge]
    exact Bool.false_ne_true
  cases j <;> exact if_neg fun both => trigger both.1

/-- Bit 14 of an entry set or cleared, as the statement writes it. -/
theorem setBit_remoteIrr (e : Word) (b : Bool) :
    setBit e remoteIrrBit b = if b then e ||| 0x4000#32 else e &&& 0xFFFFBFFF#32 := rfl

theorem mirrorRemoteIrr_level {j : Lint} {u : LocalUnit} (level : (u.entryAt j).getLsbD 15 = true) (lvl : Bool) :
    mirrorRemoteIrr (.lint j) lvl u = if 16 ≤ ((u.entryAt j).extractLsb' 0 8).toNat then
      u.withEntry j (if lvl then u.entryAt j ||| 0x4000#32 else u.entryAt j &&& 0xFFFFBFFF#32) else u := by
  have trigger : triggerOf (u.entryAt j) = .level := (triggerOf_eq_level _).2 level
  rw [← setBit_remoteIrr]
  cases j <;> exact if_congr (and_iff_right trigger) rfl rfl

/-- Settles O40: the first sampling records a rise, and the second injects the entry if the pin is still high. -/
theorem localEdgeInput : Obligations.LocalEdgeInput := by
  intro s p k j b r present
  have present' : ({ s with input := r } : State).packages[p]? = some k := present
  simp only [onEvent_eq, runEvent]
  refine ⟨lintPin_of_masked present', fun usable released unmasked edge => ?_⟩
  have h : Listens { s with input := r } p k j := ⟨present', usable, released, unmasked⟩
  refine ⟨sampleEdge_eq _ b ▸ h.lintPin_edge edge, h.lintSample_waiting, h.lintSample_seen edge, fun seen => ?_⟩
  set u := k.lu.withPin j ⟨true, .waiting⟩ with hu
  have entry : lvtOf (.lint j) u = k.lu.entryAt j := lvtOf_withPin ..
  have sample := (h.lintSample_seen edge seen).trans (if_pos rfl)
  have unmasked' : (lvtOf (.lint j) u).getLsbD 16 = false := entry ▸ unmasked
  rw [sample, ← entry]
  refine ⟨fun code => ?fixed, fun code => ?extInt, fun code => ?nmi, fun code => ?noMode⟩
  case fixed =>
    rw [injectLocal_fixed _ _ present' unmasked' code, mirrorRemoteIrr_edge (by rw [hu, entryAt_withPin, edge])]
    rw [sourceTrigger, entry, (triggerOf_eq_edge _).2 edge]
    rfl
  case extInt =>
    rw [injectLocal_extInt _ _ present' unmasked' code, entry, edge]
    rfl
  case nmi =>
    rw [injectLocal_nmi _ _ present' unmasked' code, entry, edge]
    rfl
  case noMode => exact injectLocal_noMode _ _ present' unmasked' code true

/-- Settles O41: a level that differs from the pin's last one injects the entry. -/
theorem localLevelInput : Obligations.LocalLevelInput := by
  intro s p k j b r present usable released unmasked level
  have present' : ({ s with input := r } : State).packages[p]? = some k := present
  have h : Listens { s with input := r } p k j := ⟨present', usable, released, unmasked⟩
  simp only [onEvent_eq, runEvent, h.lintPin_level level]
  refine ⟨fun same => if_pos same, fun differs => ?_⟩
  rw [if_neg (by rw [differs]; cases b <;> simp)]
  set u := k.lu.withPin j ⟨b, (k.lu.pinAt j).edge⟩ with hu
  have entry : lvtOf (.lint j) u = k.lu.entryAt j := lvtOf_withPin ..
  have unmasked' : (lvtOf (.lint j) u).getLsbD 16 = false := entry ▸ unmasked
  refine ⟨fun code => ?fixed, fun code => ?nmi, fun code => ?extInt, fun code => ?noMode⟩
  all_goals rw [← entry] at code
  case fixed =>
    rw [injectLocal_fixed _ _ present' unmasked' code, mirrorRemoteIrr_level (by rw [hu, entryAt_withPin, level]),
      sourceTrigger, entry, (triggerOf_eq_level _).2 level, hu, entryAt_withPin]
    rfl
  case nmi =>
    rw [injectLocal_nmi _ _ present' unmasked' code, entry, level, hu]
    cases j <;> rfl
  case extInt =>
    rw [injectLocal_extInt _ _ present' unmasked' code, entry, level]
    rfl
  case noMode => exact injectLocal_noMode _ _ present' unmasked' code b

end Sys2Proof.Machine
end

section
/-!
PROOFS. The Interrupt Command Register (R42, R170 to R176): every write of its low word, and so every command row, is decided by
the code of its delivery mode and its fields (`State.commandOutcome`); then what an allowed command sends, what one with shorthand
Self does at once, and what stops the run.
-/

namespace Sys2Proof.Machine

/-! ### The fields of a word that has been changed (R48, R170) -/

/-- A word without reserved bits is the command word of its code and its fields. -/
theorem eq_commandWord {w : Word} {code : BitVec 3} {f : CommandFields} (clear : commandReserved w = false)
    (mode : w.extractLsb' 8 3 = code) (fields : commandFields w = f) : w = commandWord code f := by
  rw [← mode, ← fields, commandWord_commandFields clear]

/-- The low word that a command row leaves is a command word, with the read-only fields of the register. -/
theorem rowWord_eq_commandWord (code : BitVec 3) (f : CommandFields) (busy : Bool) (status : BitVec 2) :
    rowWord code f busy status = commandWord code { f with deliveryState := busy, readStatus := status } := rfl

/-- A mask of ones keeps every bit. -/
theorem and_full {n : Nat} {m : BitVec n} (full : m = BitVec.allOnes n) (x : BitVec n) : x &&& m = x := by
  rw [full, BitVec.and_allOnes]

/-- R49, R170: of a word written to the ICR low word the fields are stored, and the read-only ones stay. -/
theorem storedCommand_eq_rowWord (u : LocalUnit) (v : Word) :
    storedCommand u v =
      rowWord (v.extractLsb' 8 3) (commandFields v) (sendPending u.icrLow) (u.icrLow.extractLsb' 16 2) := by
  refine (eq_commandWord ?clear ?mode ?fields).trans (rowWord_eq_commandWord ..).symm
  all_goals
    simp [commandReserved, commandFields, storedCommand, writeMasked, icrMask, icrReadOnly, sendPending, deliveryStateBit,
      BitVec.extractLsb'_or, BitVec.extractLsb'_and, and_full (m := 3#2) rfl, and_full (m := 7#3) rfl,
      and_full (m := 255#8) rfl]

/-- R172: the read status, in its field. -/
theorem extractLsb'_readStatus (c : BitVec 2) : ((c ++ 0#16).setWidth 32).extractLsb' 16 2 = c := by
  rw [setWidth_eq_zero_append 14, BitVec.extractLsb'_append_eq_of_add_le (by omega)]
  exact BitVec.extractLsb'_append_eq_left

/-- A change of the read status touches nothing else of a command word. -/
theorem fields_setReadStatus (w : Word) (c : BitVec 2) :
    commandReserved (setReadStatus w c) = commandReserved w ∧ (setReadStatus w c).extractLsb' 8 3 = w.extractLsb' 8 3 ∧
      commandFields (setReadStatus w c) = { commandFields w with readStatus := c } := by
  simp [commandReserved, commandFields, setReadStatus, writeMasked, extractLsb'_readStatus, BitVec.extractLsb'_or,
    BitVec.extractLsb'_and, and_full (m := 3#2) rfl, and_full (m := 7#3) rfl, and_full (m := 255#8) rfl,
    and_full (m := 4095#12) rfl]

/-- A change of the delivery state touches nothing else of a command word. -/
theorem fields_setBit (w : Word) (b : Bool) :
    commandReserved (setBit w deliveryStateBit b) = commandReserved w ∧
      (setBit w deliveryStateBit b).extractLsb' 8 3 = w.extractLsb' 8 3 ∧
      commandFields (setBit w deliveryStateBit b) = { commandFields w with deliveryState := b } := by
  cases b <;>
    simp [commandReserved, commandFields, setBit, deliveryStateBit, BitVec.extractLsb'_or, BitVec.extractLsb'_and,
      and_full (m := 3#2) rfl, and_full (m := 7#3) rfl, and_full (m := 255#8) rfl, and_full (m := 4095#12) rfl]

section
variable (code : BitVec 3) (f : CommandFields) (busy : Bool) (status : BitVec 2)

theorem setReadStatus_rowWord (c : BitVec 2) :
    setReadStatus (rowWord code f busy status) c = rowWord code f busy c := by
  obtain ⟨clear, mode, fields⟩ := fields_setReadStatus (rowWord code f busy status) c
  simp only [rowWord_eq_commandWord, commandReserved_commandWord, mode_commandWord, commandFields_commandWord]
    at clear mode fields
  exact (eq_commandWord clear mode fields).trans (rowWord_eq_commandWord ..).symm

theorem setBit_rowWord (b : Bool) : setBit (rowWord code f busy status) deliveryStateBit b = rowWord code f b status := by
  obtain ⟨clear, mode, fields⟩ := fields_setBit (rowWord code f busy status) b
  simp only [rowWord_eq_commandWord, commandReserved_commandWord, mode_commandWord, commandFields_commandWord]
    at clear mode fields
  exact (eq_commandWord clear mode fields).trans (rowWord_eq_commandWord ..).symm

/-! ### What the fields of a low word mean (R42, R48) -/

/-- R42: the shorthand that a code names. -/
def codedShorthand (c : BitVec 2) : Shorthand :=
  if c = 0b00#2 then .none else if c = 0b01#2 then .self else if c = 0b10#2 then .allInclSelf else .allExclSelf

theorem shorthandOf_eq (w : Word) : shorthandOf w = codedShorthand (w.extractLsb' 18 2) := by
  rw [shorthandOf]
  generalize w.extractLsb' 18 2 = c
  revert c
  decide

theorem fields_rowWord :
    commandFields (rowWord code f busy status) = { f with deliveryState := busy, readStatus := status } := by
  rw [rowWord_eq_commandWord, commandFields_commandWord]

theorem shorthandOf_rowWord : shorthandOf (rowWord code f busy status) = codedShorthand f.shorthand := by
  rw [shorthandOf_eq]
  exact congrArg (fun g => codedShorthand g.shorthand) (fields_rowWord code f busy status)

theorem triggerOf_rowWord : triggerOf (rowWord code f busy status) = if f.triggerLevel then .level else .edge :=
  congrArg (fun g => if g.triggerLevel then TriggerMode.level else .edge) (fields_rowWord code f busy status)

theorem levelOf_rowWord : levelOf (rowWord code f busy status) = f.level :=
  congrArg CommandFields.level (fields_rowWord code f busy status)

theorem destModeOf_rowWord : destModeOf (rowWord code f busy status) = if f.logical then .logical else .physical :=
  congrArg (fun g => if g.logical then DestMode.logical else .physical) (fields_rowWord code f busy status)

theorem vectorOf_rowWord : vectorOf (rowWord code f busy status) = f.vector :=
  congrArg CommandFields.vector (fields_rowWord code f busy status)

theorem modeCodeOf_rowWord : modeCodeOf (rowWord code f busy status) = code := by
  rw [rowWord_eq_commandWord]
  exact mode_commandWord ..

end

theorem codedShorthand_eq_none (c : BitVec 2) : codedShorthand c = .none ↔ c = 0b00#2 := by
  revert c; decide

theorem codedShorthand_eq_self (c : BitVec 2) : codedShorthand c = .self ↔ c = 0b01#2 := by
  revert c; decide

theorem codedShorthand_eq_allInclSelf (c : BitVec 2) : codedShorthand c = .allInclSelf ↔ c = 0b10#2 := by
  revert c; decide

theorem codedShorthand_eq_allExclSelf (c : BitVec 2) : codedShorthand c = .allExclSelf ↔ c = 0b11#2 := by
  revert c; decide

/-- R170, R171 item 7: the message of the low word of a row. -/
theorem commandMessage_rowWord (p : Nat) (k : Package) (mode : DeliveryMode) (code : BitVec 3) (f : CommandFields)
    (busy : Bool) (status : BitVec 2) : commandMessage p k.lu mode (rowWord code f busy status) = rowMessage p k mode f := by
  simp only [commandMessage, vectorOf_rowWord, destModeOf_rowWord, levelOf_rowWord, triggerOf_rowWord, shorthandOf_rowWord,
    codedShorthand_eq_none, rowMessage]
  cases f.logical <;> rfl

/-! ### A command is decided by its code and its fields -/

/-- The low word that a unit in the state `u` stores for a command with delivery mode code `code` and fields `f`. -/
abbrev LocalUnit.commandWord (u : LocalUnit) (code : BitVec 3) (f : CommandFields) : Word :=
  rowWord code f false (u.icrLow.extractLsb' 16 2)

/-- R170, R171, R176: what a command of package `p`, `k`, does while the delivery state is Idle. -/
def State.commandOutcome (s : State) (p : Nat) (k : Package) (code : BitVec 3) (f : CommandFields) : Res :=
  match deliveryModeOf code with
  | none => .fault .icrCombination
  | some mode =>
    if restricted mode (k.lu.commandWord code f) k.lu.icrHigh then .fault .icrCombination
    else if meaningful mode (if f.triggerLevel then .level else .edge) then
      .next (issueCommand p k.lu mode (k.lu.commandWord code f) s)
    else .fault .deliveryTriggerCombination

section
variable {s : State} {p : Nat} {k : Package}

theorem writeIcrLow_of (ready : BusReady s p k) (idle : k.lu.icrLow.getLsbD 12 = false) (v : Word) :
    writeIcrLow p v s = s.commandOutcome p k (v.extractLsb' 8 3) (commandFields v) := by
  have notPending : ¬sendPending k.lu.icrLow = true := Bool.eq_false_iff.1 idle
  have stored := storedCommand_eq_rowWord k.lu v
  rw [show sendPending k.lu.icrLow = false from idle] at stored
  rw [writeIcrLow, functional_of _ ready.present ready.usable, ready.released, if_neg Bool.false_ne_true, if_neg notPending]
  simp only [stored, modeCodeOf_rowWord, triggerOf_rowWord]
  rfl

/-- R176, U7. -/
theorem writeIcrLow_busy (ready : BusReady s p k) (busy : k.lu.icrLow.getLsbD 12 = true) (v : Word) :
    writeIcrLow p v s = .fault .icrWrittenWhileBusy := by
  rw [writeIcrLow, functional_of _ ready.present ready.usable, ready.released, if_neg Bool.false_ne_true]
  exact if_pos busy

theorem commandAccess_of (ready : BusReady s p k) (empty : k.cpu.wbuf = []) (w : Word) :
    commandAccess p w s = writeIcrLow p w s := localAccess_write ready.toReachesPage empty ..

/-- The row of every code and all fields. -/
theorem commandInstr_of (ready : BusReady s p k) (empty : k.cpu.wbuf = []) (idle : k.lu.icrLow.getLsbD 12 = false)
    (code : BitVec 3) (f : CommandFields) : exec (commandInstr code p f) s = s.commandOutcome p k code f := by
  rw [exec_commandInstr, commandAccess_of ready empty, writeIcrLow_of ready idle, mode_commandWord, commandFields_commandWord,
    State.commandOutcome]
  cases deliveryModeOf code <;> rfl

end

/-- Settles O22: the write and the row have one outcome. -/
theorem icrLowWriteIsCommand : Obligations.IcrLowWriteIsCommand := by
  intro s p k v ready empty idle
  rw [commandInstr_of ready empty idle]
  exact (localRow_write ready.toReachesPage empty 0b110000#6 v).trans (writeIcrLow_of ready idle v)

/-! ### The outcome by delivery mode (R171, R176) -/

section
variable {s : State} {p : Nat} {k : Package} {code : BitVec 3} {mode : DeliveryMode} {f : CommandFields}

/-- What items 1 to 5 of R171 forbid, by the fields of the command. -/
def FieldsRestricted (mode : DeliveryMode) (f : CommandFields) (hi : Word) : Prop :=
  match mode with
  | .extInt => f.shorthand ≠ 0b00#2
  | .remoteRead =>
    f.triggerLevel = true ∨ f.logical = true ∨ f.shorthand.getLsbD 1 = true ∨
      (f.shorthand = 0b00#2 ∧ hi.extractLsb' 24 8 = 0xFF#8)
  | .reset => f.level = true ∧ (f.shorthand = 0b01#2 ∨ f.shorthand = 0b10#2)
  | _ => False

theorem restricted_rowWord (mode : DeliveryMode) (code : BitVec 3) (f : CommandFields) (busy : Bool) (status : BitVec 2)
    (hi : Word) : restricted mode (rowWord code f busy status) hi = true ↔ FieldsRestricted mode f hi := by
  have broadcast : f.shorthand.getLsbD 1 = true ↔ f.shorthand = 0b10#2 ∨ f.shorthand = 0b11#2 := by
    generalize f.shorthand = c
    revert c
    decide
  cases mode with
  | fixed | lowestPriority | nmi => exact iff_of_false Bool.false_ne_true not_false
  | extInt => simp [restricted, FieldsRestricted, shorthandOf_rowWord, codedShorthand_eq_none]
  | reset =>
    simp [restricted, FieldsRestricted, shorthandOf_rowWord, levelOf_rowWord, codedShorthand_eq_self,
      codedShorthand_eq_allInclSelf]
  | remoteRead =>
    simp only [restricted, FieldsRestricted, shorthandOf_rowWord, triggerOf_rowWord, destModeOf_rowWord, Bool.or_eq_true,
      Bool.and_eq_true, beq_iff_eq, codedShorthand_eq_none, codedShorthand_eq_allInclSelf, codedShorthand_eq_allExclSelf,
      broadcast, ite_eq_left_iff, reduceCtorEq, imp_false, Bool.not_eq_true, Bool.not_eq_false]
    tauto

theorem commandOutcome_restricted (names : deliveryModeOf code = some mode) (forbidden : FieldsRestricted mode f k.lu.icrHigh) :
    s.commandOutcome p k code f = .fault .icrCombination := by
  rw [State.commandOutcome, names]
  exact if_pos ((restricted_rowWord ..).2 forbidden)

theorem commandOutcome_meaningless (names : deliveryModeOf code = some mode) (free : ¬FieldsRestricted mode f k.lu.icrHigh)
    (meaningless : meaningful mode (if f.triggerLevel then .level else .edge) = false) :
    s.commandOutcome p k code f = .fault .deliveryTriggerCombination := by
  rw [State.commandOutcome, names]
  dsimp only
  rw [if_neg (mt (restricted_rowWord ..).1 free), meaningless]
  rfl

theorem commandOutcome_allowed (names : deliveryModeOf code = some mode) (free : ¬FieldsRestricted mode f k.lu.icrHigh)
    (allowed : meaningful mode (if f.triggerLevel then .level else .edge) = true) :
    s.commandOutcome p k code f = .next (issueCommand p k.lu mode (k.lu.commandWord code f) s) := by
  rw [State.commandOutcome, names]
  dsimp only
  rw [if_neg (mt (restricted_rowWord ..).1 free), if_pos allowed]

/-- R170: the delivery state is not Idle from then on, and the status of a Remote Read is in progress. -/
theorem pendingCommand_rowWord (mode : DeliveryMode) (code : BitVec 3) (f : CommandFields) (status : BitVec 2) :
    pendingCommand mode (rowWord code f false status) =
      rowWord code f true (if mode = .remoteRead then 0b01#2 else status) := by
  unfold pendingCommand
  split
  · rw [setReadStatus_rowWord, setBit_rowWord]; rfl
  · rw [setBit_rowWord]

theorem issueCommand_sends (present : s.packages[p]? = some k) (other : f.shorthand ≠ 0b01#2) :
    issueCommand p k.lu mode (k.lu.commandWord code f) s =
      s.commandSent p k mode code (if mode = .remoteRead then 0b01#2 else k.lu.icrLow.extractLsb' 16 2) f := by
  have notSelf : ¬shorthandOf (k.lu.commandWord code f) = .self := by
    rw [shorthandOf_rowWord, codedShorthand_eq_self]
    exact other
  rw [issueCommand, if_neg notSelf, pendingCommand_rowWord, commandMessage_rowWord, storeIcrLow, modifyLocal_of present]
  rfl

theorem modifyLocal_putLocal (present : s.packages[p]? = some k) (u : LocalUnit) (g : LocalUnit → LocalUnit) :
    modifyLocal (s.putLocal p k u) p g = s.putLocal p k (g u) := by
  rw [modifyLocal_of (putLocal_get_same present u), putLocal_put]

/-- R173: the unit stores the low word and acts on itself. -/
theorem issueCommand_self (present : s.packages[p]? = some k) (self : f.shorthand = 0b01#2) :
    issueCommand p k.lu mode (k.lu.commandWord code f) s =
      deliverSelf p { k.lu with icrLow := k.lu.commandWord code f } (rowMessage p k mode f)
        (s.putLocal p k { k.lu with icrLow := k.lu.commandWord code f }) := by
  have isSelf : shorthandOf (k.lu.commandWord code f) = .self := by
    rw [shorthandOf_rowWord, codedShorthand_eq_self]
    exact self
  rw [issueCommand, if_pos isSelf, commandMessage_rowWord, storeIcrLow, modifyLocal_of present]

end

/-- Settles O21: the row of each code, none of whose fields is forbidden. -/
theorem commandRowsSend : Obligations.CommandRowsSend := by
  intro s p k f ready empty idle other
  have sends (code : BitVec 3) {mode : DeliveryMode} (names : deliveryModeOf code = some mode)
      (free : ¬FieldsRestricted mode f k.lu.icrHigh)
      (allowed : meaningful mode (if f.triggerLevel then .level else .edge) = true) :
      exec (commandInstr code p f) s =
        .next (s.commandSent p k mode code (if mode = .remoteRead then 0b01#2 else k.lu.icrLow.extractLsb' 16 2) f) := by
    rw [commandInstr_of ready empty idle, commandOutcome_allowed names free allowed, issueCommand_sends ready.present other]
  refine ⟨sends 0b000 rfl id rfl, sends 0b001 rfl id rfl, fun level => ?nmi, fun level assert => ?reset,
    fun edge none => ?extInt, fun edge none physical single => ?remoteRead⟩
  case nmi => exact sends 0b100 rfl id (by simp [level, meaningful])
  case reset =>
    refine sends 0b101 rfl (fun ⟨high, form⟩ => ?_) (by simp [level, meaningful])
    exact form.elim other (assert high)
  case extInt => exact sends 0b111 rfl (fun some => some none) (by simp [edge, meaningful])
  case remoteRead =>
    refine sends 0b011 rfl (fun forbidden => ?_) (by simp [edge, meaningful])
    simp [FieldsRestricted, edge, physical, none, single] at forbidden

/-- Settles O24: the delivery state, then the fields that R171 forbids, then the pairs outside the table of R176. -/
theorem commandRowsStop : Obligations.CommandRowsStop := by
  intro s p k f ready empty
  refine ⟨fun busy c row => ?busy, fun idle => ?idle⟩
  case busy =>
    obtain ⟨w, exec_row⟩ := exec_commandRow row p f
    rw [exec_row, commandAccess_of ready empty, writeIcrLow_busy ready busy]
  case idle =>
    have forbidden (code : BitVec 3) {mode : DeliveryMode} (names : deliveryModeOf code = some mode)
        (h : FieldsRestricted mode f k.lu.icrHigh) : exec (commandInstr code p f) s = .fault .icrCombination := by
      rw [commandInstr_of ready empty idle, commandOutcome_restricted names h]
    have meaningless (code : BitVec 3) {mode : DeliveryMode} (names : deliveryModeOf code = some mode)
        (free : ¬FieldsRestricted mode f k.lu.icrHigh)
        (h : meaningful mode (if f.triggerLevel then .level else .edge) = false) :
        exec (commandInstr code p f) s = .fault .deliveryTriggerCombination := by
      rw [commandInstr_of ready empty idle, commandOutcome_meaningless names free h]
    refine ⟨fun edge => ?nmi, fun level none => ?extInt, fun some => forbidden 0b111 rfl some, fun any => ?read,
      fun none all => ?readAll, fun high form => forbidden 0b101 rfl ⟨high, form⟩, fun edge form => ?reset⟩
    case nmi => exact meaningless 0b100 rfl id (by simp [edge, meaningful])
    case extInt => exact meaningless 0b111 rfl (fun some => some none) (by simp [level, meaningful])
    case read => exact forbidden 0b011 rfl (by simp only [FieldsRestricted]; tauto)
    case readAll => exact forbidden 0b011 rfl (.inr (.inr (.inr ⟨none, all⟩)))
    case reset =>
      refine meaningless 0b101 rfl (fun ⟨high, self⟩ => ?_) (by simp [edge, meaningful])
      obtain low | none | others := form
      · simp [low] at high
      · simp [none] at self
      · simp [others] at self

/-! ### Shorthand Self (R173) -/

/-- R172: what the unit reads, it stores, and the status is valid. -/
theorem storeRemote_putLocal {s : State} {p : Nat} {k : Package} (present : s.packages[p]? = some k) (u : LocalUnit)
    (v : Option Word) :
    storeRemote (s.putLocal p k u) p v =
      { s.putLocal p k { u with remote := remoteValue s v, icrLow := setReadStatus u.icrLow readValid } with
        fresh := remoteFresh s v } :=
  modifyLocal_putLocal (s := { s with fresh := remoteFresh s v }) present u _

/-- Settles O23: each allowed mode acts on the unit whose low word has just been stored. -/
theorem selfCommands : Obligations.SelfCommands := by
  intro s p k f ready empty idle self
  have acts (code : BitVec 3) {mode : DeliveryMode} (names : deliveryModeOf code = some mode)
      (free : ¬FieldsRestricted mode f k.lu.icrHigh)
      (allowed : meaningful mode (if f.triggerLevel then .level else .edge) = true) :
      exec (commandInstr code p f) s =
        .next (deliverSelf p { k.lu with icrLow := k.lu.commandWord code f } (rowMessage p k mode f)
          (s.putLocal p k { k.lu with icrLow := k.lu.commandWord code f })) := by
    rw [commandInstr_of ready empty idle, commandOutcome_allowed names free allowed, issueCommand_self ready.present self]
  have changes {u : LocalUnit} {g : LocalUnit → LocalUnit} := modifyLocal_putLocal (s := s) ready.present u g
  refine ⟨?fixed, ?lowestPriority, fun level => ?nmi, fun level low => ?reset, fun edge physical => ?remoteRead⟩
  case fixed => exact (acts 0b000 rfl id rfl).trans (congrArg _ changes)
  case lowestPriority => exact (acts 0b001 rfl id rfl).trans (congrArg _ changes)
  case nmi => exact (acts 0b100 rfl id (by simp [level, meaningful])).trans (congrArg _ changes)
  case reset =>
    refine (acts 0b101 rfl (fun ⟨high, _⟩ => by simp [low] at high) (by simp [level, meaningful])).trans (congrArg _ ?_)
    have prst : k.lu.prst = false := (Bool.or_eq_false_iff.1 ready.released).2
    simp only [deliverSelf, rowMessage, low]
    exact releaseByMessage_eq_self (putLocal_get_same ready.present _) prst
  case remoteRead =>
    have row : exec (.msgRemoteRead p f) s = .next (storeRemote
        (s.putLocal p k { k.lu with icrLow := k.lu.commandWord 0b011 f }) p
        (localRead (f.vector.extractLsb' 0 6) { k.lu with icrLow := k.lu.commandWord 0b011 f })) :=
      acts 0b011 (mode := .remoteRead) rfl (by simp [FieldsRestricted, edge, physical, self]) (by simp [edge, meaningful])
    rw [storeRemote_putLocal ready.present, setReadStatus_rowWord] at row
    generalize localRead (f.vector.extractLsb' 0 6) { k.lu with icrLow := k.lu.commandWord 0b011 f } = v at row ⊢
    refine ⟨fun w value => ?_, fun none => ?_⟩
    · subst value
      exact row
    · subst none
      exact row

end Sys2Proof.Machine
end

section
/-!
PROOFS. The edge-triggered inputs of an I/O unit (R181, R182, R206): what a level at the pin records, which pin is served next
(D19), and what the second sampling sends.
-/

namespace Sys2Proof.Machine

/-! ### The pin that is served next (D19) -/

theorem edgeReady_iff {u : IoUnit} {j : Fin 16} :
    edgeReady u j = true ↔
      (u.rt.get j).getLsbD 16 = false ∧ (u.rt.get j).getLsbD 15 = false ∧ (u.pins.get j).edge = .seen := by
  simp only [edgeReady, maskedOf, getLsbD_lowWord _ (show 16 < 32 by omega), Bool.and_eq_true, Bool.not_eq_true', beq_iff_eq,
    triggerOf_eq_edge, getLsbD_lowWord _ (show 15 < 32 by omega), and_assoc]

/-- The lowest pin that is ready is the next. -/
theorem nextEdge_of_lowest {u : IoUnit} {j : Fin 16} (ready : edgeReady u j = true)
    (lowest : ∀ i : Fin 16, i < j → edgeReady u i = false) : nextEdge u = some j := by
  refine List.find?_eq_some_iff_getElem.2 ⟨ready, j.val, by simp, by simp, fun i below => ?_⟩
  rw [List.getElem_finRange, Bool.not_eq_true']
  exact lowest _ below

section
variable {s : State} {n : Nat} {kn : Package} {j : Fin 16}

/-! ### A level at a pin (R181, R182) -/

theorem intPin_masked (ready : IoReady s n kn) (masked : (kn.iou.rt.get j).getLsbD 16 = true) (b : Bool) :
    intPin n j b s = .next (s.putIo n kn (setPin j ⟨b, .waiting⟩ kn.iou)) := by
  have isMasked : maskedOf (lowWord (kn.iou.rt.get j)) = true := (getLsbD_lowWord _ (by omega)).trans masked
  rw [intPin, withPackage_of _ ready.present, modifyIo_of ready.present]
  exact if_pos (.inr (.inr isMasked))

theorem intPin_edge (ready : IoReady s n kn) (unmasked : (kn.iou.rt.get j).getLsbD 16 = false)
    (edge : (kn.iou.rt.get j).getLsbD 15 = false) (b : Bool) :
    intPin n j b s = .next (s.putIo n kn (setPin j (sampleEdge (kn.iou.pins.get j) b) kn.iou)) := by
  have notMasked : maskedOf (lowWord (kn.iou.rt.get j)) = false := (getLsbD_lowWord _ (by omega)).trans unmasked
  have trigger : triggerOf (lowWord (kn.iou.rt.get j)) = .edge :=
    (triggerOf_eq_edge _).2 ((getLsbD_lowWord _ (by omega)).trans edge)
  rw [intPin, withPackage_of _ ready.present]
  simp only [modifyIo_of ready.present, ready.usable, ready.released, notMasked, trigger]
  rfl

/-! ### The second sampling (R181, R206) -/

theorem ioSample_next (ready : IoReady s n kn) (next : nextEdge kn.iou = some j) {lvl : Bool}
    (level : (kn.iou.pins.get j).level = lvl) :
    ioSample n s = if lvl then ioSend n j true kn.iou (s.putIo n kn (setPin j ⟨lvl, .waiting⟩ kn.iou))
      else .next (s.putIo n kn (setPin j ⟨lvl, .waiting⟩ kn.iou)) := by
  rw [ioSample, functional_of _ ready.present ready.usable, ready.released]
  simp only [next, modifyIo_of ready.present, level]
  rfl

end

/-- R176: the modes an unmasked edge-triggered entry may send. -/
theorem edgeModes_allowed {x : BitVec 3 × DeliveryMode} (h : x ∈ edgeModes) :
    deliveryModeOf x.1 = some x.2 ∧ x.2 ≠ .remoteRead ∧ meaningful x.2 .edge = true := by
  fin_cases h <;> decide

/-- R176: NMI and Reset are for level-triggered entries only. -/
theorem levelOnly_meaningless {c : BitVec 3} (h : c ∈ [0b100#3, 0b101#3]) :
    ∃ mode, deliveryModeOf c = some mode ∧ mode ≠ .remoteRead ∧ meaningful mode .edge = false := by
  simp only [List.mem_cons, List.not_mem_nil, or_false] at h
  obtain rfl | rfl := h
  · exact ⟨.nmi, rfl, by decide, rfl⟩
  · exact ⟨.reset, rfl, by decide, rfl⟩

/-- Settles O38: the first sampling, and the second of the pin that is next. -/
theorem edgeInput : Obligations.EdgeInput := by
  intro s n kn j b r ready
  have ready' : IoReady { s with input := r } n kn := { ready with }
  refine ⟨fun masked => intPin_masked ready' masked b, fun unmasked edge => ?sampled, fun unmasked edge seen lowest => ?second⟩
  case sampled =>
    rw [← sampleEdge_eq]
    exact intPin_edge ready' unmasked edge b
  case second =>
    have next : nextEdge kn.iou = some j := by
      refine nextEdge_of_lowest (edgeReady_iff.2 ⟨unmasked, edge, seen⟩) fun i below => ?_
      rw [Bool.eq_false_iff, ne_eq, edgeReady_iff]
      rintro ⟨clear, rising, ready⟩
      obtain masked | level | unseen := lowest i below
      · exact Bool.false_ne_true (clear.symm.trans masked)
      · exact Bool.false_ne_true (rising.symm.trans level)
      · exact unseen ready
    have trigger : triggerOf (lowWord (kn.iou.rt.get j)) = .edge :=
      (triggerOf_eq_edge _).2 ((getLsbD_lowWord _ (by omega)).trans edge)
    have sample {lvl : Bool} := ioSample_next ready' next (lvl := lvl)
    refine ⟨fun low => (sample low).trans (if_neg Bool.false_ne_true), fun high => ?_⟩
    have sends := (sample high).trans (if_pos rfl)
    refine ⟨fun y allowed code => sends.trans ?allowed, fun code => sends.trans ?meaningless,
      fun code => sends.trans (ioSend_noMode code)⟩
    case allowed =>
      obtain ⟨names, notRead, meaning⟩ := edgeModes_allowed allowed
      rw [ioSend_allowed (code ▸ names) notRead (by rw [trigger, meaning]), trigger, modifyIo_putIo ready'.present]
      rfl
    case meaningless =>
      obtain ⟨mode, names, notRead, none⟩ := levelOnly_meaningless code
      exact ioSend_meaningless names notRead (by rw [trigger, none])

end Sys2Proof.Machine
end

section
/-!
PROOFS. The delivery of a message (R160 to R168, R172, R174, R210). The targets of the model are the packages that
`isTarget` names, each once; a change of every listed package, and what the sender keeps, are maps over the packages.
So a delivery is one map (`Deliverable.onEvent_deliver_map`), and each statement names what it does at a place.
-/

namespace Sys2Proof.Machine

/-! ### The targets (R161, R162) -/

theorem isNamed_eq (m : Message) (q : Nat) (k : Package) : isNamed m q k = addresses m q k.lu := by
  unfold isNamed addresses
  cases m.shorthand <;> rfl

theorem isTarget_eq (m : Message) (q : Nat) (k : Package) : isTarget m q k = (receives m.mode k && addresses m q k.lu) := by
  rw [isTarget, isNamed_eq]
  rfl

section
variable {s t : State} {m : Message} {p q : Nat} {k : Package} {x : Nat × Package}

theorem mem_receivers : x ∈ receivers m s ↔ s.packages[x.1]? = some x.2 ∧ receives m.mode x.2 = true := by
  obtain ⟨q, k⟩ := x
  simp only [receivers, List.mem_filter, List.mem_mapIdx, Prod.mk.injEq, List.getElem?_eq_some_iff]
  constructor
  · rintro ⟨⟨i, inside, rfl, rfl⟩, can⟩
    exact ⟨⟨inside, rfl⟩, can⟩
  · rintro ⟨⟨inside, rfl⟩, can⟩
    exact ⟨⟨q, inside, rfl, rfl⟩, can⟩

theorem mem_targets : x ∈ targets m s ↔ s.packages[x.1]? = some x.2 ∧ isTarget m x.1 x.2 = true := by
  rw [targets, List.mem_filter, mem_receivers, isTarget_eq, Bool.and_eq_true, and_assoc]

/-- The places of the targets. -/
theorem mem_targets_fst (present : s.packages[q]? = some k) :
    q ∈ (targets m s).map Prod.fst ↔ isTarget m q k = true := by
  simp only [List.mem_map, mem_targets]
  constructor
  · rintro ⟨⟨q, k'⟩, ⟨present', target⟩, rfl⟩
    obtain rfl := Option.some.inj (present.symm.trans present')
    exact target
  · exact fun target => ⟨(q, k), ⟨present, target⟩, rfl⟩

theorem targetAt_eq_true : targetAt s m q = true ↔ q ∈ (targets m s).map Prod.fst := by
  unfold targetAt
  cases present : s.packages[q]? with
  | some k => exact (mem_targets_fst present).symm
  | none =>
    refine iff_of_false Bool.false_ne_true fun mem => ?_
    obtain ⟨x, target, rfl⟩ := List.mem_map.1 mem
    simp [(mem_targets.1 target).1] at present

/-- Each target is listed once. -/
theorem nodup_targets : ((targets m s).map Prod.fst).Nodup := by
  have places : (s.packages.mapIdx fun q k => (q, k)).map Prod.fst = List.range s.packages.length :=
    List.ext_getElem (by simp) fun i _ _ => by simp
  refine List.Nodup.sublist (List.Sublist.map _ (List.filter_sublist.trans List.filter_sublist)) ?_
  rw [places]
  exact List.nodup_range

/-! ### Changes of listed packages as one map -/

theorem modifyPackage_eq_mapIdx (s : State) (p : Nat) (f : Package → Package) :
    modifyPackage s p f = { s with packages := s.packages.mapIdx fun q k => if p = q then f k else k } := by
  rw [modifyPackage]
  congr 1
  refine List.ext_getElem? fun i => ?_
  rw [List.getElem?_modify, List.getElem?_mapIdx]
  split <;> simp_all

theorem foldl_modifyPackage {qs : List Nat} (nodup : qs.Nodup) (s : State) (f : Package → Package) :
    qs.foldl (fun s q => modifyPackage s q f) s =
      { s with packages := s.packages.mapIdx fun q k => if q ∈ qs then f k else k } := by
  induction qs generalizing s with
  | nil =>
    have same : s.packages.mapIdx (fun _ k => k) = s.packages := List.ext_getElem (by simp) fun i _ _ => by simp
    simp [same]
  | cons p r ih =>
    obtain ⟨new, nodup⟩ := List.nodup_cons.1 nodup
    rw [List.foldl_cons, ih nodup, modifyPackage_eq_mapIdx]
    dsimp only
    rw [List.mapIdx_mapIdx]
    congr 2
    funext q k
    by_cases here : p = q
    · subst here
      simp [new]
    · simp [here, Ne.symm here]

/-! ### What the sender keeps of the message (R174, R210) -/

theorem modifyIo_modifyIo (s : State) (n : Nat) (f g : IoUnit → IoUnit) :
    modifyIo (modifyIo s n f) n g = modifyIo s n fun u => g (f u) := by
  simp only [modifyIo, modifyPackage, List.modify_modify_eq]
  rfl

theorem setEntryBit_setEntryBit (j : Fin 16) (a b : Nat) (x y : Bool) (u : IoUnit) :
    setEntryBit j b y (setEntryBit j a x u) = setEntry j (setBit (setBit (u.rt.get j) a x) b y) u := by
  have entry : (setEntry j (setBit (u.rt.get j) a x) u).rt.get j = setBit (u.rt.get j) a x := Vector.getElem_set_self j.isLt
  simp only [setEntryBit, entry]
  simp only [setEntry, Vector.set_set]

/-- R210: a level message is accepted if it has a target. -/
theorem levelAccepted_iff :
    levelAccepted m (targets m s) = true ↔
      (m.mode = .fixed ∨ m.mode = .lowestPriority) ∧ m.trigger = .level ∧ 16 ≤ m.vector.toNat ∧
        (List.range s.packages.length).any (targetAt s m) = true := by
  have some : (targets m s).isEmpty = false ↔ (List.range s.packages.length).any (targetAt s m) = true := by
    rw [List.isEmpty_eq_false_iff_exists_mem, List.any_eq_true]
    constructor
    · rintro ⟨x, target⟩
      obtain ⟨inside, -⟩ := List.getElem?_eq_some_iff.1 (mem_targets.1 target).1
      exact ⟨x.1, List.mem_range.2 inside, targetAt_eq_true.2 (List.mem_map_of_mem target)⟩
    · rintro ⟨q, -, target⟩
      obtain ⟨x, target, -⟩ := List.mem_map.1 (targetAt_eq_true.1 target)
      exact ⟨x, target⟩
  simp only [levelAccepted, Bool.and_eq_true, Bool.or_eq_true, beq_iff_eq, decide_eq_true_eq, Bool.not_eq_true', some, and_assoc]

theorem entryAfter_eq (e : Word64) :
    entryAfter s m e =
      let idle := setBit e deliveryStateBit (s.icc.queue.any fun x => x.source == m.source)
      if levelAccepted m (targets m s) then setBit idle remoteIrrBit m.level else idle := by
  simp only [entryAfter, ← levelAccepted_iff]
  rfl

/-- The sender in `t`, which `m`, sent in `s`, has made of it, keeps of `m` what `senderDone` says. -/
theorem acknowledgeSender_eq (waits : ∀ n j, m.source = .io n j →
      t.icc.queue.any (fun x => x.source == m.source) = s.icc.queue.any fun x => x.source == m.source) :
    acknowledgeSender m (targets m s) t = { t with packages := t.packages.mapIdx (senderDone s m) } := by
  match source : m.source with
  | .local p =>
    simp only [acknowledgeSender, source, modifyLocal, modifyPackage_eq_mapIdx]
    congr 2
    funext q k
    simp only [senderDone, source]
    rfl
  | .io n j =>
    have entry : acknowledgeSender m (targets m s) t =
        modifyIo t n fun u => setEntry j (entryAfter s m (u.rt.get j)) u := by
      simp only [entryAfter_eq, ← waits n j source]
      simp only [acknowledgeSender, source]
      split
      · rw [modifyIo_modifyIo]
        simp only [setEntryBit_setEntryBit]
      · rfl
    rw [entry, modifyIo, modifyPackage_eq_mapIdx]
    congr 2
    funext q k
    simp only [senderDone, source]
    rfl

/-! ### A delivery that nothing stops (R160) -/

theorem Deliverable.senderTrusted (d : Deliverable s m) : senderUntrusted m s = false :=
  senderUntrusted_eq_false fun q k present sent => d.usable q k present (sent.imp_right .inl)

theorem Deliverable.trusted (d : Deliverable s m) : untrusted m (targets m s) s = false := by
  have targetsTrusted : (targets m s).any (fun x => x.2.needsReset) = false := by
    rw [List.any_eq_false]
    intro x target
    obtain ⟨present, named⟩ := mem_targets.1 target
    exact Bool.eq_false_iff.1 (d.usable x.1 x.2 present (.inr (.inr (.inl named))))
  have others : (m.mode == .reset && !m.level && s.packages.any fun k => !k.resetPin && k.needsReset) = false := by
    rw [Bool.eq_false_iff]
    intro any
    simp only [Bool.and_eq_true, beq_iff_eq, Bool.not_eq_true', List.any_eq_true] at any
    obtain ⟨⟨reset, low⟩, k, mem, released, due⟩ := any
    obtain ⟨q, present⟩ := List.mem_iff_getElem?.1 mem
    exact Bool.false_ne_true ((d.usable q k present (.inr (.inr (.inr ⟨reset, low, released⟩)))).symm.trans due)
  rw [untrusted, d.senderTrusted, targetsTrusted, others]
  rfl

/-- U12: whether a format that is not flat stands in the way of a match. -/
theorem receiversFlat_iff : receiversFlat s m = true ↔ (receivers m s).any (fun x => !Config.dfrIsFlat x.2.lu.dfr) = false := by
  rw [List.any_eq_false, receiversFlat, List.all_eq_true]
  constructor
  · intro flat x mem
    obtain ⟨present, can⟩ := mem_receivers.1 mem
    have this := flat x.2 (List.mem_of_getElem? present)
    rw [show (x.2.hasCpu && !x.2.resetPin && (x.2.lu.svr.getLsbD 8 || m.mode == .reset)) = true from can] at this
    simpa using this
  · intro flat k mem
    obtain ⟨q, present⟩ := List.mem_iff_getElem?.1 mem
    cases can : receives m.mode k with
    | false => exact Bool.or_eq_true_iff.2 (.inl (congrArg (!·) can))
    | true => exact Bool.or_eq_true_iff.2 (.inr (by simpa using flat (q, k) (mem_receivers.2 ⟨present, can⟩)))

theorem Deliverable.formats (d : Deliverable s m) :
    (needsFormat m && (receivers m s).any (fun x => !Config.dfrIsFlat x.2.lu.dfr)) = false := by
  rw [Bool.and_eq_false_iff]
  obtain physical | shorthand | flat := d.format
  · exact .inl (by simp [needsFormat, physical])
  · exact .inl (by simp [needsFormat, shorthand])
  · exact .inr (receiversFlat_iff.1 flat)

theorem Deliverable.withInput (d : Deliverable s m) (r : List Input) : Deliverable { s with input := r } m :=
  ⟨d.carried, d.unique, d.usable, d.format⟩

theorem Deliverable.deliverCarried (d : Deliverable s m) (choice : List Nat) :
    deliverCarried choice s =
      .next (acknowledgeSender m (targets m s)
        (deliverTo m choice (targets m s) { s with icc := { s.icc with carried := none } })) := by
  simp only [Machine.deliverCarried, d.carried, d.unique, d.formats, d.trusted]
  rfl

/-- The machine when the message has been taken off the bus. -/
def State.offBus (s : State) (r : List Input) : State := { s with icc := { s.icc with carried := none }, input := r }

theorem Deliverable.onEvent_deliver (d : Deliverable s m) (choice : List Nat) (r : List Input) :
    onEvent s (.deliver choice) r =
      .next (acknowledgeSender m (targets m s) (deliverTo m choice (targets m s) (s.offBus r))) :=
  (onEvent_eq ..).trans ((d.withInput r).deliverCarried choice)

/-- A delivery whose effect is the map `f` over the packages. -/
theorem Deliverable.onEvent_deliver_map (d : Deliverable s m) (choice : List Nat) (r : List Input)
    {f : Nat → Package → Package}
    (effect : deliverTo m choice (targets m s) (s.offBus r) = { s.offBus r with packages := s.packages.mapIdx f }) :
    onEvent s (.deliver choice) r =
      .next { s.offBus r with packages := s.packages.mapIdx fun q k => senderDone s m q (f q k) } := by
  rw [d.onEvent_deliver, effect, acknowledgeSender_eq (s := s) fun _ _ _ => by rfl]
  dsimp only
  rw [List.mapIdx_mapIdx]
  rfl

/-- A delivery that changes the local unit of each package listed by `f`. -/
theorem Deliverable.onEvent_deliver_each (d : Deliverable s m) (choice : List Nat) (r : List Input)
    {f : LocalUnit → LocalUnit} {qs : List Nat} (nodup : qs.Nodup)
    (effect : deliverTo m choice (targets m s) (s.offBus r) = eachLocal f qs (s.offBus r)) :
    onEvent s (.deliver choice) r =
      .next { s.carriedOut m fun q k => if q ∈ qs then f k.lu else k.lu with input := r } := by
  refine d.onEvent_deliver_map choice r ((effect.trans (foldl_modifyPackage nodup _ _)).trans ?_)
  congr 2
  funext q k
  dsimp only
  split <;> rfl

/-- A delivery says what becomes of the packages there are. -/
theorem carriedOut_congr {f g : Nat → Package → LocalUnit}
    (same : ∀ (q : Nat) (k : Package), s.packages[q]? = some k → f q k = g q k) : s.carriedOut m f = s.carriedOut m g := by
  rw [State.carriedOut, State.carriedOut]
  congr 1
  refine List.mapIdx_eq_mapIdx_iff.2 fun q inside => ?_
  rw [same q _ (List.getElem?_eq_getElem inside)]

end

/-! ### The messages every target accepts (R160, R162, D20) -/

section
variable {m : Message}

/-- R160, R162, D20: `m` is a Fixed, ExtINT or NMI message, or a level deassert under Lowest Priority. -/
def Message.isAcceptedByAll (m : Message) : Prop :=
  m.mode = .fixed ∨ m.mode = .extInt ∨ m.mode = .nmi ∨ (m.mode = .lowestPriority ∧ m.trigger = .level ∧ m.level = false)

theorem deliverTo_of_isAcceptedByAll (all : m.isAcceptedByAll) (choice : List Nat) (ts : List (Nat × Package)) (t : State) :
    deliverTo m choice ts t = eachLocal (accepted m) (ts.map Prod.fst) t := by
  obtain fixed | extInt | nmi | ⟨lowest, level, deassert⟩ := all
  · have notLowest : acceptors m choice ts = ts.map Prod.fst := if_neg (by simp [fixed])
    have acts : accepted m = acceptFixed m.vector m.trigger m.level := by
      funext u
      simp only [accepted, fixed]
    simp only [deliverTo, fixed, notLowest, acts]
  · have acts : accepted m = acceptExtInt := by
      funext u
      simp only [accepted, extInt]
      rfl
    simp only [deliverTo, extInt, acts]
  · have acts : accepted m = acceptNmi m.level := by
      funext u
      simp only [accepted, nmi]
      rfl
    simp only [deliverTo, nmi, acts]
  · have deasserts : acceptors m choice ts = ts.map Prod.fst := if_neg (by simp [level, deassert])
    have acts : accepted m = acceptFixed m.vector m.trigger m.level := by
      funext u
      simp only [accepted, lowest]
    simp only [deliverTo, lowest, deasserts, acts]

end

/-- Settles O27: one map over the packages, at the places of the targets. -/
theorem deliversToEveryTarget : Obligations.DeliversToEveryTarget := by
  intro s m choice r d all
  rw [d.onEvent_deliver_each choice r nodup_targets (deliverTo_of_isAcceptedByAll all choice _ _)]
  rw [carriedOut_congr fun q k present => ?_]
  simp only [mem_targets_fst present]

/-- U12: a format that is not flat stops a match. -/
theorem deliverCarried_of_not_flat {s : State} {m : Message} (carried : s.icc.carried = some m)
    (unique : (idsInUse m s).Nodup) (logical : m.destMode = .logical) (single : m.shorthand = .none)
    (notFlat : receiversFlat s m = false) (choice : List Nat) : deliverCarried choice s = .fault .dfrFormat := by
  have needs : needsFormat m = true := by simp [needsFormat, logical, single]
  have format : (receivers m s).any (fun x => !Config.dfrIsFlat x.2.lu.dfr) = true := by
    rw [← Bool.not_eq_false, ← receiversFlat_iff, notFlat]
    exact Bool.false_ne_true
  simp only [deliverCarried, carried, unique, needs, format]
  rfl

/-- Settles O28: a format that is not flat is a fault; with flat formats a Fixed message is one of O27. -/
theorem logicalDelivery : Obligations.LogicalDelivery := by
  intro s m choice r carried unique logical single
  refine ⟨fun notFlat => ?stops, fun flat fixed trusted => ?delivers⟩
  case stops =>
    exact (onEvent_eq ..).trans
      (deliverCarried_of_not_flat (s := { s with input := r }) carried unique logical single notFlat choice)
  case delivers =>
    rw [deliversToEveryTarget s m choice r ⟨carried, unique, trusted, .inr (.inr flat)⟩ (.inl fixed)]
    have target (q : Nat) (k : Package) : isTarget m q k =
        (k.hasCpu && !k.resetPin && k.lu.svr.getLsbD 8 && (k.lu.ldr &&& m.destination) != 0#32) := by
      have notReset : (m.mode == .reset) = false := by simp [fixed]
      simp only [isTarget, isNamed, logical, single, notReset, Bool.or_false]
    simp only [target, accepted, fixed]

end Sys2Proof.Machine
end

section
/-!
PROOFS. The deliveries of a Reset message (R167, R168) and of a Remote Read (R172). The first takes the messages of its
targets off the queue with its change of their units; the second starts the processors of its targets and is one map over
the packages; the third changes the local unit of its sender alone.
-/

namespace Sys2Proof.Machine

section
variable {s : State} {m : Message}

theorem isTarget_resetPin {q : Nat} {k : Package} (target : isTarget m q k = true) : k.resetPin = false := by
  simp only [isTarget, Bool.and_eq_true, Bool.not_eq_true'] at target
  obtain ⟨⟨⟨-, released⟩, -⟩, -⟩ := target
  exact released

theorem isTarget_named {q : Nat} {k : Package} (target : isTarget m q k = true) :
    k.hasCpu = true ∧ isNamed m q k = true := by
  simp only [isTarget, Bool.and_eq_true] at target
  obtain ⟨⟨⟨cpu, -⟩, -⟩, named⟩ := target
  exact ⟨cpu, named⟩

/-- A change of each target, as one map over the packages. -/
theorem foldl_targets (f : Package → Package) (r : List Input) :
    ((targets m s).map Prod.fst).foldl (fun s q => modifyPackage s q f) (s.offBus r) =
      { s.offBus r with packages := s.packages.mapIdx fun q k => if isTarget m q k then f k else k } := by
  rw [foldl_modifyPackage nodup_targets]
  congr 1
  refine List.mapIdx_eq_mapIdx_iff.2 fun q inside => ?_
  simp only [mem_targets_fst (m := m) (s := s) (List.getElem?_eq_getElem inside)]

/-! ### A Reset message with level 1 (R167, R361) -/

theorem eachLocal_keepMessages (f : LocalUnit → LocalUnit) (qs : List Nat) (s : State) (keep : Source → Bool) :
    eachLocal f qs (keepMessages s keep) = keepMessages (eachLocal f qs s) keep := by
  induction qs generalizing s with
  | nil => rfl
  | cons q qs ih => exact ih (modifyLocal s q f)

theorem keepMessages_keepMessages (s : State) (keep keep' : Source → Bool) :
    keepMessages (keepMessages s keep) keep' = keepMessages s fun src => keep src && keep' src := by
  simp [keepMessages, List.filter_filter, Option.filter_filter, Bool.and_comm]

theorem foldl_resetByMessage (qs : List Nat) (s : State) :
    qs.foldl resetByMessage s =
      keepMessages (eachLocal softwareResetLocal qs s) fun src => qs.all fun q => src != .local q := by
  induction qs generalizing s with
  | nil =>
    have bus : s.icc.carried.filter (fun _ => true) = s.icc.carried := by cases s.icc.carried <;> rfl
    simp [keepMessages, eachLocal, bus]
  | cons q qs ih =>
    rw [List.foldl_cons, ih, resetByMessage, eachLocal_keepMessages, keepMessages_keepMessages]
    rfl

/-- The sources whose messages a reset of the targets keeps. -/
theorem targets_all_ne (src : Source) :
    ((targets m s).map Prod.fst).all (fun q => src != .local q) =
      match src with | .local q => !targetAt s m q | .io _ _ => true := by
  rw [Bool.eq_iff_iff, List.all_eq_true]
  match src with
  | .io n j => simp
  | .local q =>
    simp only [bne_iff_ne, ne_eq, Source.local.injEq, Bool.not_eq_true', ← Bool.not_eq_true, targetAt_eq_true]
    exact ⟨fun apart mem => apart q mem rfl, fun apart q' mem same => apart (same ▸ mem)⟩

/-- Settles O30: a reset of each target, and a filter of the queue that keeps the messages of I/O units. -/
theorem resetMessageAsserts : Obligations.ResetMessageAsserts := by
  intro s m choice r d reset high
  have resets : deliverTo m choice (targets m s) (s.offBus r) =
      keepMessages (eachLocal softwareResetLocal ((targets m s).map Prod.fst) (s.offBus r)) fun src =>
        match src with | .local q => !targetAt s m q | .io _ _ => true := by
    simp only [deliverTo, reset, high, if_true, foldl_resetByMessage, targets_all_ne]
  have waits (n : Nat) (j : Fin 16) (source : m.source = .io n j) :
      (s.icc.queue.filter fun x => (match x.source with | .local q => !targetAt s m q | .io _ _ => true)).any
        (fun x => x.source == m.source) = s.icc.queue.any fun x => x.source == m.source := by
    rw [List.any_filter, source]
    congr 1
    funext x
    match x.source with
    | .local q => exact Bool.and_false _
    | .io n' j' => rfl
  have each : eachLocal softwareResetLocal ((targets m s).map Prod.fst) (s.offBus r) = _ := foldl_targets _ r
  rw [d.onEvent_deliver, resets, each, acknowledgeSender_eq (s := s) (by exact waits)]
  dsimp only [keepMessages]
  rw [List.mapIdx_mapIdx]
  congr 2
  refine List.mapIdx_eq_mapIdx_iff.2 fun q _ => ?_
  rw [Function.comp_apply]
  refine congrArg _ ?_
  dsimp only
  split <;> rfl

/-! ### A Reset message with level 0 (R168, R366) -/

/-- A target with PRST high releases its processor, which starts unless the scan path drives the pin. -/
theorem startedOnFall_released {k : Package} (free : k.resetPin = false) (prst : k.lu.prst = true) :
    startedOnFall k { k with lu := releasedLocal k.lu } =
      { k with lu := releasedLocal k.lu, cpu := if k.tap.ir = extestOpcode then k.cpu else restarted } := by
  have released : k.unitReleased = { k with lu := releasedLocal k.lu } := by rw [Package.unitReleased, ← free]
  rw [startedOnFall_eq, ← cpuAfter_unitReleased prst, released]
  rfl

/-- What the message makes of a package, a target or not. -/
def Package.deasserted (target : Bool) (k : Package) : Package :=
  let k := if target && k.lu.prst then startedOnFall k { k with lu := releasedLocal k.lu } else k
  if k.resetPin then k else { k with lu := { k.lu with arbId := unitIdOf k.lu.id } }

theorem deasserted_eq {target : Bool} {k : Package} (free : target = true → k.resetPin = false) :
    k.deasserted target =
      let freed := target && k.lu.prst
      let u := if freed then releasedLocal k.lu else k.lu
      { k with
        lu := if k.resetPin then u else { u with arbId := k.lu.id.extractLsb' 24 8 }
        cpu := if freed && k.tap.ir != extestOpcode then restarted else k.cpu } := by
  cases freed : target && k.lu.prst with
  | false =>
    simp only [Package.deasserted, freed, Bool.false_and, Bool.false_eq_true, if_false]
    split <;> rfl
  | true =>
    obtain ⟨isTarget, prst⟩ := Bool.and_eq_true_iff.1 freed
    have pin := free isTarget
    rw [Package.deasserted, freed, if_pos rfl, startedOnFall_released pin prst]
    by_cases extest : k.tap.ir = extestOpcode <;> simp [pin, extest, unitIdOf, releasedLocal]

/-- Settles O31: the release of each target and then the Arb IDs, as one map. -/
theorem resetMessageDeasserts : Obligations.ResetMessageDeasserts := by
  intro s m choice r d reset low
  have effect : deliverTo m choice (targets m s) (s.offBus r) =
      { s.offBus r with packages := s.packages.mapIdx fun q k => k.deasserted (isTarget m q k) } := by
    have releases : ((targets m s).map Prod.fst).foldl releaseByMessage (s.offBus r) = _ := foldl_targets _ r
    simp only [deliverTo, reset, low, Bool.false_eq_true, if_false, releases, synchroniseArbIds]
    congr 1
    refine (List.mapIdx_eq_iff.2 fun q => ?_).symm
    rw [List.getElem?_map, List.getElem?_mapIdx, Option.map_map]
    congr 1
    funext k
    cases target : isTarget m q k <;> cases prst : k.lu.prst <;> simp [Package.deasserted, target, prst]
  rw [d.onEvent_deliver_map choice r effect]
  simp only [deasserted_eq isTarget_resetPin]
  rfl

end

/-! ### A Remote Read (R172) -/

section
variable {s : State} {m : Message} {p q : Nat} {k kq : Package}

/-- R174: the low word once the message has been carried and has set the status. -/
theorem setReadStatus_idle (w : Word) (c : BitVec 2) :
    setBit (setReadStatus w c) deliveryStateBit false =
      (w &&& 0xFFFCEFFF#32) ||| ((c ++ 0#16).setWidth 32 &&& 0x00030000#32) := by
  have keep : 0xFFFCFFFF#32 &&& ~~~(1#32 <<< 12) = 0xFFFCEFFF#32 := by decide
  have mask : 0x00030000#32 &&& ~~~(1#32 <<< 12) = 0x00030000#32 := by decide
  rw [setBit, if_neg Bool.false_ne_true, setReadStatus, writeMasked, deliveryStateBit, BitVec.and_or_distrib_right,
    BitVec.and_assoc, BitVec.and_assoc, keep, mask]

theorem setReadStatus_readInvalid_idle (w : Word) :
    setBit (setReadStatus w readInvalid) deliveryStateBit false = w &&& 0xFFFCEFFF#32 :=
  (setReadStatus_idle w _).trans BitVec.or_zero

/-- A Remote Read whose effect is on the local unit of its sender, which it puts at `u`. -/
theorem Deliverable.onEvent_deliver_read (d : Deliverable s m) (choice : List Nat) (r : List Input) (fresh : Nat)
    (u : LocalUnit) (read : m.mode = .remoteRead) (sender : m.source = .local p) (present : s.packages[p]? = some k)
    (effect : remoteRead m (targets m s) (s.offBus r) = { (s.offBus r).putLocal p k u with fresh := fresh }) :
    onEvent s (.deliver choice) r =
      .next { s.putLocal p k { u with icrLow := setBit u.icrLow deliveryStateBit false } with
        icc := { s.icc with carried := none }, fresh := fresh, input := r } := by
  have delivered : deliverTo m choice (targets m s) (s.offBus r) = remoteRead m (targets m s) (s.offBus r) := by
    simp only [deliverTo, read]
  have sent (t : State) : acknowledgeSender m (targets m s) t =
      modifyLocal t p fun u => { u with icrLow := setBit u.icrLow deliveryStateBit false } := by
    simp only [acknowledgeSender, sender]
  rw [d.onEvent_deliver, delivered, effect, sent]
  exact congrArg _ (modifyLocal_putLocal (s := { s.offBus r with fresh := fresh }) present u _)

theorem remoteRead_of_target (sender : m.source = .local p) (present : s.packages[p]? = some k)
    (presentTarget : s.packages[q]? = some kq) (target : isTarget m q kq = true)
    (single : ∀ q', targetAt s m q' = true → q' = q) (r : List Input) :
    remoteRead m (targets m s) (s.offBus r) =
      let v := localRead (m.vector.extractLsb' 0 6) kq.lu
      { (s.offBus r).putLocal p k
          { k.lu with remote := remoteValue s v, icrLow := setReadStatus k.lu.icrLow readValid } with
        fresh := remoteFresh s v } := by
  cases listed : targets m s with
  | nil => simp [(mem_targets_fst presentTarget).symm, listed] at target
  | cons x rest =>
    have mem : x ∈ targets m s := listed ▸ List.mem_cons_self
    have place : x.1 = q := single _ (targetAt_eq_true.2 (List.mem_map_of_mem mem))
    have unit : x.2 = kq := Option.some.inj ((mem_targets.1 mem).1.symm.trans (place ▸ presentTarget))
    simp only [remoteRead, sender, unit]
    exact modifyLocal_of (s := { s.offBus r with fresh := remoteFresh s _ }) present _

/-- The message has no target. -/
theorem targets_eq_nil (none : ∀ q, targetAt s m q = false) : targets m s = [] := by
  refine List.eq_nil_iff_forall_not_mem.2 fun x mem => ?_
  exact Bool.false_ne_true ((none x.1).symm.trans (targetAt_eq_true.2 (List.mem_map_of_mem mem)))

theorem addressesUnit_eq_true :
    addressesUnit m s = true ↔ ∃ q k, s.packages[q]? = some k ∧ k.hasCpu = true ∧ isNamed m q k = true := by
  simp only [addressesUnit, List.contains_iff_mem, List.mem_mapIdx, Bool.and_eq_true, ← isNamed_eq, List.getElem?_eq_some_iff]
  constructor
  · rintro ⟨q, inside, cpu, named⟩
    exact ⟨q, _, ⟨inside, rfl⟩, cpu, named⟩
  · rintro ⟨q, _, ⟨inside, rfl⟩, cpu, named⟩
    exact ⟨q, inside, cpu, named⟩

end

/-- Settles O32: the sender stores what the one target holds, or its status follows, or nothing changes but the delivery
state. -/
theorem remoteReadReturns : Obligations.RemoteReadReturns := by
  intro s m choice r p k d read sender present
  refine ⟨fun q kq presentTarget target single => ?target, fun unnamed => ?invalid,
    fun q kq presentUnit cpu named none => ?lost⟩
  case target =>
    have stored := d.onEvent_deliver_read choice r _ _ read sender present
      (remoteRead_of_target sender present presentTarget target single r)
    rw [setReadStatus_idle] at stored
    refine ⟨fun w holds => ?_, fun holds => ?_⟩
    all_goals
      rw [holds] at stored
      exact stored
  case invalid =>
    have notAddressed : addressesUnit m (s.offBus r) = false := by
      rw [Bool.eq_false_iff, Ne, addressesUnit_eq_true]
      rintro ⟨q, kq, presentUnit, cpu, named⟩
      exact Bool.false_ne_true ((unnamed q kq presentUnit cpu).symm.trans named)
    have noTarget : targets m s = [] := by
      refine List.eq_nil_iff_forall_not_mem.2 fun x mem => ?_
      obtain ⟨presentUnit, target⟩ := mem_targets.1 mem
      obtain ⟨cpu, named⟩ := isTarget_named target
      exact Bool.false_ne_true ((unnamed x.1 x.2 presentUnit cpu).symm.trans named)
    have effect : remoteRead m (targets m s) (s.offBus r) =
        (s.offBus r).putLocal p k { k.lu with icrLow := setReadStatus k.lu.icrLow readInvalid } := by
      simp only [remoteRead, sender, noTarget, notAddressed, Bool.false_eq_true, if_false]
      exact modifyLocal_of (s := s.offBus r) present _
    rw [d.onEvent_deliver_read choice r s.fresh _ read sender present effect, setReadStatus_readInvalid_idle]
    rfl
  case lost =>
    have addressed : addressesUnit m (s.offBus r) = true :=
      addressesUnit_eq_true.2 ⟨q, kq, presentUnit, cpu, named⟩
    have effect : remoteRead m (targets m s) (s.offBus r) = (s.offBus r).putLocal p k k.lu := by
      simp only [remoteRead, sender, targets_eq_nil none, addressed, if_true]
      exact (putPackage_self (s := s.offBus r) present).symm
    exact d.onEvent_deliver_read choice r s.fresh _ read sender present effect

end Sys2Proof.Machine
end

section
/-!
PROOFS. The winners of a Lowest Priority message (R163, R381). What the candidates are, and that the schedule's choice takes
some of them that are tied, are facts about lists of units; the priority that is compared is characterised by what lies
above it.
-/

namespace Sys2Proof.Machine

/-! ### The priority that is compared (R163) -/

section
variable {u : LocalUnit}

theorem arbitrationPriority_lt {n : Nat} :
    arbitrationPriority u < n ↔ (u.tpr.extractLsb' 4 4).toNat < n ∧
      ∀ v : Byte, hasVector u.isr v = true ∨ hasVector u.irr v = true → v.toNat / 16 < n := by
  have greatest : arbitrationPriority u =
      max (max (taskPriority u.tpr) (isrPriority u)) (isrPriority { u with isr := u.irr }) := rfl
  rw [greatest, max_lt_iff, max_lt_iff, isrPriority_lt, isrPriority_lt]
  constructor
  · rintro ⟨⟨task, -, service⟩, -, request⟩
    exact ⟨task, fun v held => held.elim (service v) (request v)⟩
  · rintro ⟨task, below⟩
    have positive : 0 < n := Nat.zero_lt_of_lt task
    exact ⟨⟨task, positive, fun v held => below v (.inl held)⟩, positive, fun v held => below v (.inr held)⟩

theorem arbitrationPriority_lt_16 (u : LocalUnit) : arbitrationPriority u < 16 :=
  arbitrationPriority_lt.2 ⟨(u.tpr.extractLsb' 4 4).isLt, fun v _ => by have := v.isLt; omega⟩

theorem ComparedPriority.eq {a : Nat} (compared : ComparedPriority u a) : arbitrationPriority u = a := by
  obtain ⟨reached, task, vectors⟩ := compared
  obtain ⟨taskBelow, vectorsBelow⟩ := arbitrationPriority_lt.1 (Nat.lt_succ_self (arbitrationPriority u))
  refine Nat.le_antisymm (Nat.lt_succ_iff.1 (arbitrationPriority_lt.2 ?_)) ?_
  · exact ⟨Nat.lt_succ_of_le task, fun v held => Nat.lt_succ_of_le (vectors v held)⟩
  · obtain task | ⟨v, held, level⟩ := reached
    · exact task ▸ Nat.lt_succ_iff.1 taskBelow
    · exact level ▸ Nat.lt_succ_iff.1 (vectorsBelow v held)

end

/-! ### The candidates (R163) -/

theorem leastFrom_le_start (b : Nat) (l : List Nat) : leastFrom b l ≤ b := by
  induction l generalizing b with
  | nil => exact Nat.le_refl b
  | cons n l ih => exact (ih (min b n)).trans (Nat.min_le_left b n)

theorem leastFrom_le {b n : Nat} {l : List Nat} (mem : n ∈ l) : leastFrom b l ≤ n := by
  induction l generalizing b with
  | nil => exact absurd mem List.not_mem_nil
  | cons n' l ih =>
    obtain rfl | mem := List.mem_cons.1 mem
    · exact (leastFrom_le_start (min b n) l).trans (Nat.min_le_right b n)
    · exact ih mem

theorem leastFrom_mem (b : Nat) (l : List Nat) : leastFrom b l ∈ b :: l := by
  induction l generalizing b with
  | nil => exact List.mem_singleton_self b
  | cons n l ih =>
    obtain first | rest := List.mem_cons.1 (ih (min b n))
    · have least : leastFrom b (n :: l) = min b n := first
      obtain same | same := min_choice b n
      all_goals simp [least, same]
    · exact List.mem_cons_of_mem b (List.mem_cons_of_mem n rest)

section
variable {v : Byte} {choice : List Nat} {ts : List (Nat × Package)} {x y : Nat × Package}

theorem candidates_sublist : (candidates v ts).Sublist ts := by
  rw [candidates]
  split
  case isTrue => exact List.filter_sublist
  case isFalse => exact List.filter_sublist

theorem candidates_ne_nil (some : ts ≠ []) : candidates v ts ≠ [] := by
  rw [candidates]
  split
  case isFalse focus => exact fun none => focus (List.isEmpty_iff.2 none)
  case isTrue =>
    obtain ⟨z, mem⟩ := List.exists_mem_of_ne_nil ts some
    have below : leastFrom 16 (ts.map fun y => arbitrationPriority y.2.lu) < 16 :=
      (leastFrom_le (List.mem_map_of_mem mem)).trans_lt (arbitrationPriority_lt_16 z.2.lu)
    obtain top | reached := List.mem_cons.1 (leastFrom_mem 16 (ts.map fun y => arbitrationPriority y.2.lu))
    · exact absurd top below.ne
    · obtain ⟨x, mem, least⟩ := List.mem_map.1 reached
      exact List.ne_nil_of_mem (List.mem_filter.2 ⟨mem, beq_iff_eq.2 least⟩)

theorem isFocus_of_mem_candidates (mem : x ∈ candidates v ts) (other : y ∈ ts) (focus : isFocus v y.2.lu = true) :
    isFocus v x.2.lu = true := by
  have some : (ts.filter fun x => isFocus v x.2.lu).isEmpty = false :=
    List.isEmpty_eq_false_iff_exists_mem.2 ⟨y, List.mem_filter.2 ⟨other, focus⟩⟩
  simp only [candidates, some, Bool.false_eq_true, if_false] at mem
  exact (List.mem_filter.1 mem).2

theorem arbitrationPriority_le_of_mem_candidates (mem : x ∈ candidates v ts) (noFocus : isFocus v x.2.lu = false)
    (other : y ∈ ts) : arbitrationPriority x.2.lu ≤ arbitrationPriority y.2.lu := by
  rw [candidates] at mem
  split at mem
  case isFalse => exact absurd (List.mem_filter.1 mem).2 (Bool.eq_false_iff.1 noFocus)
  case isTrue =>
    have least := beq_iff_eq.1 (List.mem_filter.1 mem).2
    exact least ▸ leastFrom_le (List.mem_map_of_mem (f := fun y : Nat × Package => arbitrationPriority y.2.lu) other)

/-! ### The winners (R381) -/

/-- The units that win: the candidates that `choice` names, where they may win, else the first. -/
def winning (v : Byte) (choice : List Nat) (ts : List (Nat × Package)) : List (Nat × Package) :=
  let named := (candidates v ts).filter fun x => choice.contains x.1
  if mayWin named then named else (candidates v ts).take 1

theorem chosen_eq_map_winning : chosen v choice ts = (winning v choice ts).map Prod.fst := by
  simp only [chosen, winning]
  split <;> rfl

theorem winning_sublist : (winning v choice ts).Sublist (candidates v ts) := by
  rw [winning]
  split
  case isTrue => exact List.filter_sublist
  case isFalse => exact List.take_sublist 1 _

theorem winning_ne_nil (some : ts ≠ []) : winning v choice ts ≠ [] := by
  rw [winning]
  split
  case isTrue may =>
    intro none
    rw [none] at may
    exact Bool.false_ne_true may
  case isFalse => simpa using candidates_ne_nil some

theorem arbId_eq_of_mayWin {l : List (Nat × Package)} (may : mayWin l = true) (left : x ∈ l) (right : y ∈ l) :
    x.2.lu.arbId = y.2.lu.arbId := by
  cases l with
  | nil => exact absurd left List.not_mem_nil
  | cons z l =>
    have tied (w : Nat × Package) (mem : w ∈ z :: l) : w.2.lu.arbId = z.2.lu.arbId := by
      obtain rfl | mem := List.mem_cons.1 mem
      · rfl
      · exact beq_iff_eq.1 (List.all_eq_true.1 may w mem)
    exact (tied x left).trans (tied y right).symm

theorem arbId_eq_of_mem_winning (left : x ∈ winning v choice ts) (right : y ∈ winning v choice ts) :
    x.2.lu.arbId = y.2.lu.arbId := by
  rw [winning] at left right
  split at left
  case isTrue may =>
    rw [if_pos may] at right
    exact arbId_eq_of_mayWin may left right
  case isFalse may =>
    rw [if_neg may] at right
    have single : mayWin ((candidates v ts).take 1) = true := by
      cases listed : candidates v ts with
      | nil => simp [listed] at left
      | cons z l => rfl
    exact arbId_eq_of_mayWin single left right

end

/-- Settles O29: the units chosen are tied candidates. -/
theorem lowestPriorityWinners : Obligations.LowestPriorityWinners := by
  intro s m choice r d lowest asserts
  let winners := winning m.vector choice (targets m s)
  have sub : winners.Sublist (targets m s) := winning_sublist.trans candidates_sublist
  have effect : deliverTo m choice (targets m s) (s.offBus r) =
      eachLocal (accepted m) (winners.map Prod.fst) (s.offBus r) := by
    have acts : accepted m = acceptFixed m.vector m.trigger m.level := by
      funext u
      simp only [accepted, lowest]
    have chosenUnits : acceptors m choice (targets m s) = winners.map Prod.fst :=
      (if_pos ⟨lowest, asserts⟩).trans chosen_eq_map_winning
    simp only [deliverTo, lowest, chosenUnits, acts]
  have wins {q : Nat} {k : Package} (present : s.packages[q]? = some k) (win : q ∈ winners.map Prod.fst) :
      (q, k) ∈ winners := by
    obtain ⟨x, mem, rfl⟩ := List.mem_map.1 win
    obtain rfl := Option.some.inj ((mem_targets.1 (sub.subset mem)).1.symm.trans present)
    exact mem
  refine ⟨fun q => decide (q ∈ winners.map Prod.fst), ?delivered, fun ⟨q, target⟩ => ?someone, fun q win => ?each⟩
  case delivered =>
    rw [d.onEvent_deliver_each choice r (nodup_targets.sublist (sub.map _)) effect]
    simp only [decide_eq_true_eq]
  case someone =>
    have nonempty : targets m s ≠ [] := fun empty => by simp [targetAt_eq_true, empty] at target
    obtain ⟨x, mem⟩ := List.exists_mem_of_ne_nil _ (winning_ne_nil (v := m.vector) (choice := choice) nonempty)
    exact ⟨x.1, decide_eq_true (List.mem_map_of_mem mem)⟩
  case each =>
    obtain ⟨⟨q, k⟩, mem, rfl⟩ := List.mem_map.1 (of_decide_eq_true win)
    obtain ⟨present, target⟩ := mem_targets.1 (sub.subset mem)
    have candidate : (q, k) ∈ candidates m.vector (targets m s) := winning_sublist.subset mem
    refine ⟨k, present, target, fun q' k' present' target' => ⟨fun held => ?focus,
        fun noIrr noIsr a b compared compared' => ?least⟩, fun q' k' present' win' => ?tied⟩
    case focus =>
      have other : (q', k') ∈ targets m s := mem_targets.2 ⟨present', target'⟩
      exact Bool.or_eq_true_iff.1 (isFocus_of_mem_candidates candidate other (Bool.or_eq_true_iff.2 held))
    case least =>
      have other : (q', k') ∈ targets m s := mem_targets.2 ⟨present', target'⟩
      have noFocus : isFocus m.vector k.lu = false := Bool.or_eq_false_iff.2 ⟨noIrr, noIsr⟩
      have le := arbitrationPriority_le_of_mem_candidates candidate noFocus other
      rwa [compared.eq, compared'.eq] at le
    case tied => exact arbId_eq_of_mem_winning (wins present' (of_decide_eq_true win')) mem

end Sys2Proof.Machine
end
